-- ==== Sys2Proof/Config.lean ====
section
/-! DEFINITION. What the FV-608 fixes: the capacities of the scope file's table and the fixed times of the rules.
The one constant without a body is the level of an input that no command carries. -/

namespace Sys2Proof.Config

/-- Longest body of a frame in bytes (R182). -/
abbrev maxBody : Nat := 1024
/-- Largest LEN of a frame (R182). -/
abbrev maxLen : Nat := 1026
/-- Places of the receive queue (R186). -/
abbrev receiveQueue : Nat := 4
/-- Replies waiting at which the service takes no further request (R187). -/
abbrev serviceLimit : Nat := 4
/-- Places of the reply queue (R187). -/
abbrev replyQueue : Nat := 8
/-- Places of the report queue (R191). -/
abbrev reportQueue : Nat := 64
/-- Segments of a show program (R1). -/
abbrev segments : Nat := 32
/-- Entries of a cue table (R26). -/
abbrev cueEntries : Nat := 24
/-- Places of the announcement queue (R58). -/
abbrev announceQueue : Nat := 32
/-- Frames of a channel's input queue (R39). -/
abbrev inputQueue : Nat := 8
/-- Frames of a channel's delay line (R44). -/
abbrev ringFrames : Nat := 2048
/-- The gain scale's unity (R39). -/
abbrev unity : Nat := 16384
/-- Car records of the car table (R108, R110). -/
abbrev carTable : Nat := 2048
/-- Largest lot capacity of one screen (R109). -/
abbrev maxCapacity : Nat := 500
/-- Live orders of one car (R111). -/
abbrev ordersPerCar : Nat := 4
/-- Live orders of the order table (R160). -/
abbrev orderTable : Nat := 128
/-- Lines of an order (R160). -/
abbrev orderLines : Nat := 12
/-- Largest quantity of a line (R160). -/
abbrev lineQuantity : Nat := 20
/-- Tickets of a station queue (R148). -/
abbrev stationQueue : Nat := 24
/-- Largest prep and estimate in seconds (R150, R152). -/
abbrev maxSeconds : Nat := 3600
/-- Largest stock and low threshold (R139). -/
abbrev maxStock : Nat := 9999
/-- Picture frames a second in the conversion of frames to seconds (scope: Conventions; R164). -/
abbrev framesPerSecond : Nat := 24

/-- Milliseconds of a second. -/
abbrev second : Nat := 1000
/-- Frame-loss time (R10). -/
abbrev frameLossMs : Nat := 500
/-- Length of a cue line's pulse (R33). -/
abbrev pulseMs : Nat := 250
/-- Player time (R67). -/
abbrev playerMs : Nat := 60000
/-- Debounce of the KEY line (R131). -/
abbrev keyMs : Nat := 100
/-- Debounce of BUMP and HANDED (R147, R172). -/
abbrev buttonMs : Nat := 50
/-- Byte-gap time (R185). -/
abbrev gapMs : Nat := 20

/-- IDENTIFY's vendor code (R193). -/
abbrev vendorCode : Nat := 0x0C5E
/-- IDENTIFY's part code (R193). -/
abbrev partCode : Nat := 608
/-- Silicon revision (R193, R196). -/
abbrev revision : Nat := 1

/-- Level of the BAUD strap that the reset of each SITE_RESET finds, by the number of such resets before it: a free value, as
the strap may have moved and no command carries its level (R181; log entry 19). -/
opaque strapLevel : Nat → Bool

end Sys2Proof.Config
end

