-- ==== Sys2Proof/Word.lean ====
section
/-! DEFINITION. The words of the FV-608: bytes of the site link, samples, 24-bit frame counts and 32-bit clocks. -/

namespace Sys2Proof

/-- One byte of the site link (R181). -/
abbrev Byte := BitVec 8

/-- Two bytes, or one audio sample (R182, scope: samples are 16-bit two's complement). -/
abbrev Half := BitVec 16

/-- Three bytes: a count of frames (R4). -/
abbrev Triple := BitVec 24

/-- Four bytes: site time (R134) and the kitchen clock (R148), which both wrap. -/
abbrev Word := BitVec 32

end Sys2Proof
end

