-- ==== Sys2Proof/Syntax.lean ====
section
/-! DEFINITION. The commands of the FV-608: one constructor of `Instr` for each row of spec/opcode_table.json.
A request's fields are those of its frame's body (R189), as received, so that a code or number out of range can be
refused by the owning rule. An event names the line, timer or notice it concerns. -/

namespace Sys2Proof

/-- A segment record of LOAD_PROGRAM as sent (R189). -/
structure SegmentWire where
  kind : Byte
  length : Triple
  gate : Byte
  order : Byte
  announce : Byte
  hold : Byte
  deriving DecidableEq, Repr

/-- A cue entry of LOAD_CUES as sent (R189). -/
structure CueWire where
  segment : Byte
  offset : Triple
  action : Byte
  line : Byte
  clip : Byte
  priority : Byte
  report : Byte
  deriving DecidableEq, Repr

/-- An item record of LOAD_MENU as sent (R189). -/
structure ItemWire where
  station : Byte
  prep : Half
  available : Byte
  tracked : Byte
  stock : Half
  low : Half
  deriving DecidableEq, Repr

/-- A line of ORDER as sent (R189). -/
structure LineWire where
  item : Byte
  quantity : Byte
  deriving DecidableEq, Repr

/-- One value for each of the six screens, in screen order. -/
structure Six (α : Type) where
  s0 : α
  s1 : α
  s2 : α
  s3 : α
  s4 : α
  s5 : α
  deriving DecidableEq, Repr

/-- The value of one screen. -/
def Six.get {α : Type} (v : Six α) (i : Fin 6) : α :=
  match i with
  | 0 => v.s0
  | 1 => v.s1
  | 2 => v.s2
  | 3 => v.s3
  | 4 => v.s4
  | 5 => v.s5

/-- The six values in screen order. -/
def Six.toList {α : Type} (v : Six α) : List α := [v.s0, v.s1, v.s2, v.s3, v.s4, v.s5]

/-- The body of SET_SITE (R112, R189). -/
structure SiteWire where
  spacing : Half
  capacity : Six Half
  window : Six Byte
  orderClip : Half
  recallClip : Half
  recallInterval : Half
  maxRecalls : Byte
  deriving DecidableEq, Repr

/-- A request that the service has taken, with the fields of its body (R189). -/
inductive Request where
  | identify
  | getStatus
  | setTime (time : Word)
  | setSite (settings : SiteWire)
  | siteReset
  | loadProgram (screen : Byte) (strikeTime cooldown : Half) (segments : List SegmentWire)
  | loadCues (screen : Byte) (entries : List CueWire)
  | strike (screen : Byte)
  | go (screen start autoClose : Byte)
  | hold (screen : Byte)
  | resume (screen : Byte)
  | skip (screen : Byte)
  | stop (screen : Byte)
  | getScreen (screen : Byte)
  | setChannel (channel : Byte) (delay trim duckLevel rampStep announceGain : Half)
  | getChannel (channel : Byte)
  | announce (clip priority targets : Byte)
  | cancelAnnounce (entry : Half)
  | getAnnounce
  | setLane (lane mode : Byte) (debounce timeout : Half)
  | getLane (lane : Byte)
  | admitCar (lane : Byte) (carTag : Half) (screen occupants : Byte)
  | cancelAdmit (lane : Byte)
  | checkout (carTag : Half)
  | getCar (carTag : Half)
  | readCount (record : Byte)
  | releaseCount (record : Byte)
  | setCountPolicy (policy : Byte)
  | loadMenu (start : Byte) (items : List ItemWire)
  | setStock (item tracked : Byte) (stock low : Half)
  | setStation (station opened : Byte) (perUnit : Half)
  | order (carTag : Half) (lines : List LineWire)
  | cancelOrder (number : Half)
  | pickup (number : Half)
  | getOrder (number carTag : Half)
  deriving DecidableEq, Repr

/-- The two loops of a lane (R82). -/
inductive Loop where
  | a
  | b
  deriving DecidableEq, Repr

/-- The kinds of an order's call (R58, R167). -/
inductive CallKind where
  | orderReady
  | recall
  deriving DecidableEq, Repr

/-- How a play ended (R71, R75). -/
inductive PlayOutcome where
  | finished
  | timeout
  | cancelled
  deriving DecidableEq, Repr

/-- The commands: every row of spec/opcode_table.json. The first argument of a request is the TAG of its frame. -/
inductive Instr where
  /-- A power-on reset. `strap` is the level of the BAUD strap (R181, R196). -/
  | powerOn (strap : Bool)
  | mainPowerLoss
  /-- The end of the sending of a SITE_RESET's reply (R195). -/
  | siteResetReset
  /-- A byte received on RX; `stopGood` says that its stop bit was at the stop-bit level (R181). -/
  | rxByte (byte : Byte) (stopGood : Bool)
  | byteGapExpiry
  | txFrameEnd
  | unknownKind (tag kind : Byte) (body : List Byte)
  | identify (tag : Byte)
  | getStatus (tag : Byte)
  | setTime (tag : Byte) (time : Word)
  | setSite (tag : Byte) (settings : SiteWire)
  | siteReset (tag : Byte)
  | loadProgram (tag screen : Byte) (strikeTime cooldown : Half) (segments : List SegmentWire)
  | loadCues (tag screen : Byte) (entries : List CueWire)
  | strike (tag screen : Byte)
  | go (tag screen start autoClose : Byte)
  | hold (tag screen : Byte)
  | resume (tag screen : Byte)
  | skip (tag screen : Byte)
  | stop (tag screen : Byte)
  | getScreen (tag screen : Byte)
  | framePulse (screen : Fin 6)
  | frameLossExpiry (screen : Fin 6)
  | strikeTimerExpiry (screen : Fin 6)
  | spacingIntervalExpiry
  | cooldownTimerExpiry (screen : Fin 6)
  | pulseTimerExpiry (screen : Fin 6) (line : Fin 4)
  /-- One channel's tick, with the two words the announce input port received in the period ending at it (R50). -/
  | siteSampleTick (channel : Fin 6) (portLeft portRight : Half)
  | featureFrameArrival (channel : Fin 6) (left right : Half)
  | setChannel (tag channel : Byte) (delay trim duckLevel rampStep announceGain : Half)
  | getChannel (tag channel : Byte)
  | atLevelNotice (channel : Fin 6)
  | policyNotice (screen : Fin 6)
  | announce (tag clip priority targets : Byte)
  | cancelAnnounce (tag : Byte) (entry : Half)
  | getAnnounce (tag : Byte)
  /-- A change of the DONE line to `level`; from low to high it is a DONE (R69). -/
  | done (level : Bool)
  | playerTimerExpiry
  /-- A change of a loop's raw level; `level` true is occupied (R84). -/
  | loopRawChange (lane : Fin 8) (loop : Loop) (level : Bool)
  | loopDebounceExpiry (lane : Fin 8) (loop : Loop)
  | admissionTimerExpiry (lane : Fin 8)
  | setLane (tag lane mode : Byte) (debounce timeout : Half)
  | getLane (tag lane : Byte)
  | admitCar (tag lane : Byte) (carTag : Half) (screen occupants : Byte)
  | cancelAdmit (tag lane : Byte)
  | checkout (tag : Byte) (carTag : Half)
  | getCar (tag : Byte) (carTag : Half)
  | readCount (tag record : Byte)
  | releaseCount (tag record : Byte)
  | setCountPolicy (tag policy : Byte)
  /-- A change of the KEY line's raw level; `level` true is OFFICE (R131). -/
  | keyRawChange (level : Bool)
  | keyDebounceExpiry
  | siteTimeAdvance
  | kitchenClockAdvance
  | loadMenu (tag start : Byte) (items : List ItemWire)
  | setStock (tag item tracked : Byte) (stock low : Half)
  | setStation (tag station opened : Byte) (perUnit : Half)
  /-- A change of a BUMP button's raw level; `level` true is pressed (R147). -/
  | bumpRawChange (station : Fin 4) (level : Bool)
  | bumpDebounceExpiry (station : Fin 4)
  | ticketDoneNotice (number : Nat) (station : Fin 4)
  | slotFreeNotice
  | callPlayedNotice (number entry : Nat) (kind : CallKind) (outcome : PlayOutcome)
  | recallTimerExpiry (number : Nat)
  /-- A change of a HANDED button's raw level; `level` true is pressed (R172). -/
  | handedRawChange (window : Fin 2) (level : Bool)
  | handedDebounceExpiry (window : Fin 2)
  | order (tag : Byte) (carTag : Half) (lines : List LineWire)
  | cancelOrder (tag : Byte) (number : Half)
  | pickup (tag : Byte) (number : Half)
  | getOrder (tag : Byte) (number carTag : Half)
  | backupSupplyLoss
  deriving DecidableEq, Repr

end Sys2Proof
end

