-- ==== Sys2Proof/Machine/State.lean ====
section
/-! DEFINITION. The state of the FV-608, block by block, each field as the rule of spec/ named in its docstring gives it,
and the state right after reset. Outputs and readings that the spec computes from this state (LAMP, DOUSER, effective
policies, car counts, the feature path) are functions of it and are not stored. -/

namespace Sys2Proof.Machine

/-- A timer: `none` while stopped, otherwise the milliseconds left (log entry 1). -/
abbrev Timer := Option Nat

/-! ## Screens (R1, R4) -/

inductive ScreenState where
  | dark | strikeWait | striking | ready | running | holding | closing
  deriving DecidableEq, Repr

inductive HoldReason where
  | none | operator | segmentHold | pictureLost
  deriving DecidableEq, Repr

/-- The reasons of the SCREEN_STATE report, in the code order of R23. -/
inductive StateReason where
  | strike | grant | stop | struck | go | operator | segmentHold | pictureLost | resume | skip | programEnd | cooled
  deriving DecidableEq, Repr

inductive SegmentKind where
  | preshow | trailers | feature | intermission | closingReel
  deriving DecidableEq, Repr

inductive GatePolicy where
  | admitAll | admitLate | closed
  deriving DecidableEq, Repr

inductive OrderPolicy where
  | opened | lastCall | closed
  deriving DecidableEq, Repr

inductive AnnouncePolicy where
  | opened | urgentOnly | none
  deriving DecidableEq, Repr

/-- A segment record (R4). -/
structure Segment where
  kind : SegmentKind
  length : Nat
  gate : GatePolicy
  order : OrderPolicy
  announce : AnnouncePolicy
  holdAtEnd : Bool
  deriving DecidableEq, Repr

/-- A position: segment index and frame-in-segment (R1). -/
structure Position where
  segment : Nat
  frame : Nat
  deriving DecidableEq, Repr

/-- A screen record (R1). -/
structure Screen where
  state : ScreenState
  holdReason : HoldReason
  program : Option (List Segment)
  position : Option Position
  autoClose : Bool
  strikeTime : Nat
  cooldown : Nat
  bound : Option (Fin 16)
  strikeTimer : Timer
  cooldownTimer : Timer
  frameLossTimer : Timer
  deriving DecidableEq, Repr

/-- A screen after reset (R25). -/
def Screen.reset : Screen :=
  { state := .dark, holdReason := .none, program := none, position := none, autoClose := false
    strikeTime := 45, cooldown := 120, bound := none
    strikeTimer := none, cooldownTimer := none, frameLossTimer := none }

/-! ## Cues (R26) -/

/-- What a cue entry does, with the fields its action uses (R26). -/
inductive CueAction where
  | pulse (line : Fin 4)
  | set (line : Fin 4)
  | clear (line : Fin 4)
  | toggle (line : Fin 4)
  | announce (clip priority : Nat)
  deriving DecidableEq, Repr

/-- A cue entry (R26). -/
structure CueEntry where
  segment : Nat
  offset : Nat
  action : CueAction
  report : Bool
  deriving DecidableEq, Repr

/-- One screen's share of the cue unit (R26): its table, its four line levels (high is true) and pulse timers. -/
structure CueUnit where
  table : List CueEntry
  levels : Vector Bool 4
  timers : Vector Timer 4
  deriving DecidableEq, Repr

/-- The cue unit of a screen after reset (R38). -/
def CueUnit.reset : CueUnit :=
  { table := [], levels := Vector.replicate 4 false, timers := Vector.replicate 4 none }

/-! ## Sound channels (R39) -/

/-- A stereo frame of two 16-bit samples. -/
structure Frame where
  left : Half
  right : Half
  deriving DecidableEq, Repr

/-- The frame of 0 on both sides. -/
def Frame.zero : Frame := ⟨0, 0⟩

inductive DuckMode where
  | unity | level
  deriving DecidableEq, Repr

/-- A sound channel (R39). `ring` lists the delay line's frames that are not zero by rising place (log entry 24). -/
structure Channel where
  delay : Nat
  trim : Nat
  duckLevel : Nat
  rampStep : Nat
  announceGain : Nat
  input : List Frame
  ring : List (Nat × Frame)
  writePoint : Nat
  duckGain : Nat
  mode : DuckMode
  feedOpen : Bool
  atLevel : Bool
  overrun : Bool
  underrun : Bool
  clip : Bool
  output : Frame
  deriving DecidableEq, Repr

/-- A channel after reset (R57). -/
def Channel.reset : Channel :=
  { delay := 0, trim := 16384, duckLevel := 4096, rampStep := 64, announceGain := 16384
    input := [], ring := [], writePoint := 0, duckGain := 16384, mode := .unity, feedOpen := false
    atLevel := false, overrun := false, underrun := false, clip := false, output := .zero }

/-! ## Announce path (R58, R61, R66) -/

/-- Kinds of announcement entry (R58). -/
inductive EntryKind where
  | call (kind : CallKind)
  | showNotice
  | operator
  deriving DecidableEq, Repr

/-- A waiting entry (R58). `targets` holds the screens of the target set in ascending order. -/
structure Entry where
  number : Nat
  kind : EntryKind
  priority : Nat
  targets : List (Fin 6)
  clip : Nat
  tag : Option Nat
  order : Option Nat
  deriving DecidableEq, Repr

/-- The on-air record (R61): the granted entry with its granted targets. -/
structure OnAir where
  number : Nat
  kind : EntryKind
  priority : Nat
  granted : List (Fin 6)
  clip : Nat
  tag : Option Nat
  order : Option Nat
  deriving DecidableEq, Repr

inductive PathState where
  | idle | ducking | playing
  deriving DecidableEq, Repr

structure AnnouncePath where
  queue : List Entry
  onAir : Option OnAir
  state : PathState
  timer : Timer
  nextEntry : Nat
  deriving DecidableEq, Repr

/-- The announce path after reset (R81). -/
def AnnouncePath.reset : AnnouncePath :=
  { queue := [], onAir := none, state := .idle, timer := none, nextEntry := 1 }

/-- A word sent on PLAY (R66). -/
structure PlayWord where
  clip : Nat
  tag : Nat
  deriving DecidableEq, Repr

/-- The STOP word (R66). -/
def PlayWord.stop : PlayWord := ⟨0, 0⟩

/-! ## Lanes (R82) -/

inductive LaneMode where
  | disabled | entry | exit
  deriving DecidableEq, Repr

inductive Direction where
  | none | fwd | rev
  deriving DecidableEq, Repr

/-- A pending admission (R82). -/
structure Admission where
  tag : Nat
  screen : Fin 6
  record : Fin 16
  deriving DecidableEq, Repr

/-- A lane's attribution (R82, R100). -/
structure Attribution where
  screen : Fin 6
  record : Fin 16
  show_ : Nat
  deriving DecidableEq, Repr

/-- A lane record (R82). A level or state of a loop is true while occupied. -/
structure Lane where
  mode : LaneMode
  debounce : Nat
  timeout : Nat
  rawA : Bool
  rawB : Bool
  debA : Bool
  debB : Bool
  timerA : Timer
  timerB : Timer
  direction : Direction
  pending : Option Admission
  admTimer : Timer
  barrierUp : Bool
  attribution : Option Attribution
  deriving DecidableEq, Repr

/-- A lane after reset, its loops reading `rawA` and `rawB` (R106). -/
def Lane.reset (rawA rawB : Bool) : Lane :=
  { mode := .disabled, debounce := 200, timeout := 60, rawA := rawA, rawB := rawB, debA := rawA, debB := rawB
    timerA := none, timerB := none, direction := .none, pending := none, admTimer := none
    barrierUp := false, attribution := none }

/-! ## Car table and site settings (R107, R113) -/

inductive CarState where
  | pending | onLot
  deriving DecidableEq, Repr

/-- A car record (R107). -/
structure Car where
  tag : Nat
  screen : Fin 6
  record : Fin 16
  state : CarState
  lane : Fin 8
  occupants : Nat
  late : Bool
  capture : Option Position
  admitted : Option Word
  openOrders : Nat
  deriving DecidableEq, Repr

/-- The site settings (R113). -/
structure SiteSettings where
  spacing : Nat
  capacity : Six Nat
  window : Six (Fin 2)
  orderClip : Nat
  recallClip : Nat
  recallInterval : Nat
  maxRecalls : Nat
  deriving DecidableEq, Repr

/-- The site settings after reset (R113, R121). -/
def SiteSettings.reset : SiteSettings :=
  { spacing := 5, capacity := ⟨0, 0, 0, 0, 0, 0⟩, window := ⟨0, 0, 0, 1, 1, 1⟩
    orderClip := 1, recallClip := 2, recallInterval := 180, maxRecalls := 2 }

/-! ## Count book and backup domain (R122, R123) -/

inductive RecordState where
  | free | opened | closed
  deriving DecidableEq, Repr

/-- The twelve counts of a count record (R123). -/
structure Counts where
  programsRun : Nat
  admissions : Nat
  lateAdmissions : Nat
  occupants : Nat
  admissionsExpired : Nat
  backouts : Nat
  tailgates : Nat
  ordersTaken : Nat
  unitsSold : Nat
  ordersPicked : Nat
  ordersExpired : Nat
  ordersCancelled : Nat
  deriving DecidableEq, Repr

/-- Every count 0. -/
def Counts.zero : Counts :=
  { programsRun := 0, admissions := 0, lateAdmissions := 0, occupants := 0, admissionsExpired := 0, backouts := 0
    tailgates := 0, ordersTaken := 0, unitsSold := 0, ordersPicked := 0, ordersExpired := 0, ordersCancelled := 0 }

/-- A count record (R123); its number is its place in the book. -/
structure CountRecord where
  state : RecordState
  screen : Option (Fin 6)
  show_ : Option Nat
  openedAt : Option Word
  closedAt : Option Word
  interrupted : Bool
  counts : Counts
  deriving DecidableEq, Repr

/-- The FREE contents (R123). -/
def CountRecord.freed : CountRecord :=
  { state := .free, screen := none, show_ := none, openedAt := none, closedAt := none
    interrupted := false, counts := .zero }

inductive CountPolicy where
  | free | keyed
  deriving DecidableEq, Repr

/-- The backup domain (R122). `secondMs` is the part of site time's present second that has passed (R134). -/
structure CountBook where
  records : Vector CountRecord 16
  showCounter : Nat
  siteTime : Word
  secondMs : Nat
  policy : CountPolicy
  valid : Bool
  deriving DecidableEq, Repr

/-- The backup domain as a start that finds it lost rebuilds it (R137). -/
def CountBook.rebuilt : CountBook :=
  { records := Vector.replicate 16 .freed, showCounter := 1, siteTime := 0, secondMs := 0, policy := .keyed
    valid := true }

/-- The audit key switch (R122, R131); true is OFFICE. -/
structure KeySwitch where
  raw : Bool
  office : Bool
  timer : Timer
  deriving DecidableEq, Repr

/-- The key switch after reset: the position is the raw level at once (R131). -/
def KeySwitch.reset (raw : Bool) : KeySwitch := { raw := raw, office := raw, timer := none }

/-! ## Kitchen (R139, R145, R148) -/

/-- An item record (R139); `stock` is absent for an untracked item. -/
structure Item where
  station : Fin 4
  prep : Nat
  available : Bool
  stock : Option Nat
  low : Nat
  deriving DecidableEq, Repr

/-- An item after reset (R159). -/
def Item.reset : Item := { station := 0, prep := 0, available := false, stock := none, low := 0 }

/-- A ticket (R148). -/
structure Ticket where
  order : Nat
  station : Fin 4
  units : Nat
  prep : Nat
  started : Option Word
  deriving DecidableEq, Repr

/-- A debounced button: BUMP (R145) or HANDED (R172); true is pressed. -/
structure Button where
  raw : Bool
  deb : Bool
  timer : Timer
  deriving DecidableEq, Repr

/-- A button after reset: the debounced level is the raw level (R159, R180). -/
def Button.reset (raw : Bool) : Button := { raw := raw, deb := raw, timer := none }

/-- A station record (R145). -/
structure Station where
  opened : Bool
  perUnit : Nat
  queue : List Ticket
  bump : Button
  deriving DecidableEq, Repr

/-- A station after reset (R159). -/
def Station.reset (raw : Bool) : Station :=
  { opened := true, perUnit := 10, queue := [], bump := .reset raw }

structure Kitchen where
  menu : Vector Item 128
  stations : Vector Station 4
  clock : Word
  clockMs : Nat
  deriving DecidableEq, Repr

/-! ## Orders (R160) -/

inductive OrderState where
  | taken | ready | called | orphaned
  deriving DecidableEq, Repr

/-- A line of an order (R160). -/
structure OrderLine where
  item : Fin 128
  quantity : Nat
  deriving DecidableEq, Repr

/-- An order record (R160). -/
structure Order where
  number : Nat
  tag : Nat
  screen : Fin 6
  record : Fin 16
  show_ : Nat
  window : Fin 2
  state : OrderState
  lines : List OrderLine
  units : Nat
  outstanding : List (Fin 4)
  taken : Word
  readyAt : Option Word
  calls : Nat
  callEntry : Option Nat
  deferredMark : Bool
  recallTimer : Timer
  deriving DecidableEq, Repr

/-- An item of the deferred list (R167). -/
structure Deferred where
  order : Nat
  kind : CallKind
  deriving DecidableEq, Repr

structure OrderUnit where
  table : List Order
  counter : Nat
  ready : Vector (List Nat) 2
  deferred : List Deferred
  handed : Vector Button 2
  deriving DecidableEq, Repr

/-! ## Site link (R182, R188, R190) -/

/-- A good frame of the receive queue (R182, R186). -/
structure RxFrame where
  tag : Byte
  kind : Byte
  body : List Byte
  deriving DecidableEq, Repr

/-- The receiver (R184): IN_FRAME holds the bytes collected after SYNC. -/
inductive Receiver where
  | hunting
  | inFrame (bytes : List Byte)
  deriving DecidableEq, Repr

/-- The result codes, in the code order of R188. -/
inductive Result where
  | ok | badFrame | badTag | unknownKind | badLength | outOfRange | linkBusy | state | screenActive | cooling
  | noProgram | cueRange | countBookFull | queueFull | noSuchEntry | notCancellable | wrongLaneMode | laneBusy
  | gateClosed | lotFull | duplicateTag | unknownCar | notOnLot | capacityInUse | keyRequired | carLimit
  | orderingClosed | itemUnavailable | stationClosed | soldOut | orderTableFull | stationFull | tooLate | noSuchOrder
  deriving DecidableEq, Repr

/-- A reply frame (R188): its TAG, its result and the bytes of its data. `endsPart` marks the reply of a SITE_RESET, at
whose end the part resets (R195). -/
structure Reply where
  tag : Byte
  result : Result
  data : List Byte
  endsPart : Bool
  deriving DecidableEq, Repr

inductive StartCause where
  | powerOn | siteReset
  deriving DecidableEq, Repr

inductive AdmissionEnd where
  | expired | cancelled | teardown
  deriving DecidableEq, Repr

inductive OrderEnd where
  | picked | expired | cancelled | orphaned | orphanDone
  deriving DecidableEq, Repr

inductive StockCondition where
  | low | soldOut
  deriving DecidableEq, Repr

inductive AudioCondition where
  | overrun | underrun
  deriving DecidableEq, Repr

/-- The record of a report, by kind, in the code order of R190. -/
inductive ReportRecord where
  | start (cause : StartCause) (backupLost : Bool)
  | screenState (left entered : ScreenState) (reason : StateReason) (hold : HoldReason) (bound : Option (Fin 16))
  | segment (index : Nat) (segment : Segment)
  | cue (index : Nat) (position : Position) (action : CueAction) (level : Bool) (entry : Nat)
  | admitted (tag : Nat) (screen : Fin 6) (record : Fin 16) (occupants : Nat) (late : Bool) (capture : Option Position)
  | admissionEnded (tag : Nat) (screen : Fin 6) (record : Fin 16) (reason : AdmissionEnd)
  | backout (attribution : Option Attribution) (counted : Bool) (tag : Option Nat)
  | tailgate (attribution : Option Attribution) (counted : Bool)
  | exit
  | wrongWay
  | onAir (record : OnAir) (remainder : Bool)
  | playDone (record : OnAir) (outcome : PlayOutcome) (remainder : Bool)
  | dropped (index clip priority : Nat) (position : Position)
  | orderReady (number tag : Nat) (screen : Fin 6) (taken readyAt : Word) (entry : Nat)
  | orderEnded (number tag : Nat) (screen : Fin 6) (reason : OrderEnd) (calls : Nat) (left counted : Bool)
  | stock (item : Fin 128) (condition : StockCondition) (after low order : Nat)
  | audio (condition : AudioCondition) (pathOpen : Bool)
  | key (office : Bool) (policy : CountPolicy)
  | countClosed (record : Fin 16) (show_ : Nat) (openedAt closedAt : Word) (interrupted : Bool)
  deriving DecidableEq, Repr

/-- A report of the report queue (R190): site time when it was queued, subject and record. -/
structure Report where
  time : Word
  subject : Nat
  record : ReportRecord
  deriving DecidableEq, Repr

/-- The frame being sent on TX (R192), a report with the lost mark it started with (R191). -/
inductive Sending where
  | reply (reply : Reply)
  | report (report : Report) (lostMark : Bool)
  deriving DecidableEq, Repr

/-- The site link (R181 to R192): the BAUD strap as last read (log entry 19), the rate read from it, the receiver, the queues,
the lost flag, the frame on TX, and whether a SITE_RESET has been taken. -/
structure Link where
  strap : Bool
  fastBaud : Bool
  receiver : Receiver
  gapTimer : Timer
  received : List RxFrame
  replies : List Reply
  reports : List Report
  lost : Bool
  sending : Option Sending
  resetTaken : Bool
  deriving DecidableEq, Repr

/-- The site link after reset, before START is queued (R197). -/
def Link.reset (strap : Bool) : Link :=
  { strap := strap, fastBaud := strap, receiver := .hunting, gapTimer := none, received := [], replies := []
    reports := [], lost := false, sending := none, resetTaken := false }

/-! ## The whole part -/

/-- A notice handed by one block to another and not yet taken (R11, R54, R78, R79, R154; log entry 10). -/
inductive Notice where
  | policy (screen : Fin 6)
  | atLevel (channel : Fin 6)
  | slotFree
  | ticketDone (order : Nat) (station : Fin 4)
  | callPlayed (order entry : Nat) (kind : CallKind) (outcome : PlayOutcome)
  deriving DecidableEq, Repr

/-- The state of the FV-608: main power and VBACKUP (R135), the blocks of the scope file's block table, the notices between
them, the number of times a SITE_RESET's reset has read the BAUD strap (the model's own: log entry 19), and the queue of
commands that wait, first in, first out. -/
structure State where
  powered : Bool
  vbackup : Bool
  screens : Vector Screen 6
  strikeQueue : List (Fin 6)
  spacing : Timer
  cues : Vector CueUnit 6
  channels : Vector Channel 6
  announce : AnnouncePath
  playWords : List PlayWord
  doneLine : Bool
  lanes : Vector Lane 8
  cars : List Car
  site : SiteSettings
  book : CountBook
  key : KeySwitch
  kitchen : Kitchen
  orders : OrderUnit
  link : Link
  notices : List Notice
  strapReads : Nat
  pending : List Instr
  deriving DecidableEq, Repr

/-- Why a command would stop the machine. The manual gives no such case (log entry 25), so there is none: whoever
proves that a step does not fault has nothing to exclude (safe). -/
inductive Fault where
  deriving DecidableEq, Repr

/-- Why a command has no meaning. -/
inductive Refusal where
  /-- Raised by an arm of `exec` whose command has no meaning yet. Safe: the machine stops where the hardware goes on.
  No arm raises it now. -/
  | notModelled (mnemonic : String)
  deriving DecidableEq, Repr

/-- The machine right after reset: a power-on that finds the backup lost (R25, R38, R57, R81, R106, R121, R137, R159,
R180, R197), VBACKUP present and every input line at the level log entries 7 and 19 name, START being sent (R196) and no
command waiting. -/
def State.reset : State :=
  { powered := true
    vbackup := true
    screens := Vector.replicate 6 .reset
    strikeQueue := []
    spacing := none
    cues := Vector.replicate 6 .reset
    channels := Vector.replicate 6 .reset
    announce := .reset
    playWords := [.stop]
    doneLine := false
    lanes := Vector.replicate 8 (.reset false false)
    cars := []
    site := .reset
    book := .rebuilt
    key := .reset false
    kitchen :=
      { menu := Vector.replicate 128 .reset, stations := Vector.replicate 4 (.reset false), clock := 0, clockMs := 0 }
    orders :=
      { table := [], counter := 1, ready := Vector.replicate 2 [], deferred := []
        handed := Vector.replicate 2 (.reset false) }
    link := { Link.reset false with sending := some (.report ⟨0, 0, .start .powerOn true⟩ false) }
    notices := []
    strapReads := 0
    pending := [] }

end Sys2Proof.Machine
end

