-- ==== Sys2Proof/Machine/Ops.lean ====
section
/-! DEFINITION. The named operations over state that the meanings share: one element of a block, timers, the number
counters, the delay line, the report and reply queues with the transmit arbiter, and the notices between blocks. -/

namespace Sys2Proof.Machine

/-! ## Vectors and lists of unit numbers -/

/-- Change one element of a bank of units. -/
def vmod {α : Type} {n : Nat} (v : Vector α n) (i : Fin n) (f : α → α) : Vector α n := v.set i.val (f v[i])

def allScreens : List (Fin 6) := [0, 1, 2, 3, 4, 5]
def allLines : List (Fin 4) := [0, 1, 2, 3]
def allLanes : List (Fin 8) := [0, 1, 2, 3, 4, 5, 6, 7]
def allStations : List (Fin 4) := [0, 1, 2, 3]
def allWindows : List (Fin 2) := [0, 1]
def allRecords : List (Fin 16) := [0, 1, 2, 3, 4, 5, 6, 7, 8, 9, 10, 11, 12, 13, 14, 15]
def allItems : List (Fin 128) := List.finRange 128

/-! ## One unit of a block -/

def State.updScreen (s : State) (i : Fin 6) (f : Screen → Screen) : State := { s with screens := vmod s.screens i f }
def State.updCue (s : State) (i : Fin 6) (f : CueUnit → CueUnit) : State := { s with cues := vmod s.cues i f }
def State.updChannel (s : State) (i : Fin 6) (f : Channel → Channel) : State :=
  { s with channels := vmod s.channels i f }
def State.updLane (s : State) (i : Fin 8) (f : Lane → Lane) : State := { s with lanes := vmod s.lanes i f }
def State.updRecord (s : State) (i : Fin 16) (f : CountRecord → CountRecord) : State :=
  { s with book := { s.book with records := vmod s.book.records i f } }
def State.updItem (s : State) (i : Fin 128) (f : Item → Item) : State :=
  { s with kitchen := { s.kitchen with menu := vmod s.kitchen.menu i f } }
def State.updStation (s : State) (i : Fin 4) (f : Station → Station) : State :=
  { s with kitchen := { s.kitchen with stations := vmod s.kitchen.stations i f } }
def State.updHanded (s : State) (i : Fin 2) (f : Button → Button) : State :=
  { s with orders := { s.orders with handed := vmod s.orders.handed i f } }
def State.updAnnounce (s : State) (f : AnnouncePath → AnnouncePath) : State := { s with announce := f s.announce }
def State.updOrders (s : State) (f : OrderUnit → OrderUnit) : State := { s with orders := f s.orders }
def State.updLink (s : State) (f : Link → Link) : State := { s with link := f s.link }

/-! ## Cars and orders, held by rising tag and number (log entry 16) -/

def State.findCar (s : State) (tag : Nat) : Option Car := s.cars.find? (·.tag == tag)

/-- Change the car record of a tag, if there is one. -/
def State.updCar (s : State) (tag : Nat) (f : Car → Car) : State :=
  { s with cars := s.cars.map fun c => if c.tag == tag then f c else c }

def State.removeCar (s : State) (tag : Nat) : State := { s with cars := s.cars.filter (·.tag != tag) }

/-- Put a new car record in its place. -/
def insertCar (c : Car) : List Car → List Car
  | [] => [c]
  | d :: rest => if c.tag < d.tag then c :: d :: rest else d :: insertCar c rest

def State.findOrder (s : State) (number : Nat) : Option Order := s.orders.table.find? (·.number == number)

/-- Change the order record of a number, if there is one. -/
def State.updOrder (s : State) (number : Nat) (f : Order → Order) : State :=
  s.updOrders fun u => { u with table := u.table.map fun o => if o.number == number then f o else o }

def State.removeOrder (s : State) (number : Nat) : State :=
  s.updOrders fun u => { u with table := u.table.filter (·.number != number) }

/-- Put a new order record in its place. -/
def insertOrder (o : Order) : List Order → List Order
  | [] => [o]
  | p :: rest => if o.number < p.number then o :: p :: rest else p :: insertOrder o rest

/-- The car count of a screen: its records, PENDING and ON_LOT together (R109). -/
def State.carCount (s : State) (i : Fin 6) : Nat := s.cars.countP fun c => c.screen == i

/-! ## Timers (log entry 1) -/

/-- A timer started at a length in milliseconds. -/
def Timer.start (ms : Nat) : Timer := some ms

/-- A timer after one further millisecond; a timer that has run out waits for its expiry. -/
def Timer.elapse (t : Timer) : Timer := t.map (· - 1)

/-- A timer that has run out and whose expiry has not been taken. -/
def Timer.due (t : Timer) : Bool := t == some 0

/-- Seconds left, rounded up (R24, R76, R104, R120, R179). -/
def secondsUp (ms : Nat) : Nat := (ms + 999) / 1000

/-- A debounce timer after a raw change (R84, R131, R147, R172): it starts or restarts when the new raw level differs from
the debounced level and stops when it equals it. -/
def debounceTimer (raw deb : Bool) (ms : Nat) : Timer := if raw == deb then none else .start ms

/-! ## Numbers (R59, R125, R161) -/

/-- The number after `n`; 65,535 is followed by 1. -/
def nextNumber (n : Nat) : Nat := if n ≥ 65535 then 1 else n + 1

/-- The first number from `n` on that is not live, trying at most `fuel` live ones. -/
def pickNumber (live : List Nat) : Nat → Nat → Nat
  | 0, n => n
  | fuel + 1, n => if live.contains n then pickNumber live fuel (nextNumber n) else n

/-- A count increased by `k`, stopping at the largest value of its field (R124). -/
def saturate (top n k : Nat) : Nat := min top (n + k)

/-- A setting replaced by the nearest end of its range when it is out of range (scope: clamped). -/
def clamp (low high n : Nat) : Nat := max low (min high n)

/-! ## The delay line (R44, log entry 24) -/

/-- The frame at a place: an unlisted place holds the zero frame (R57). -/
def Ring.read (ring : List (Nat × Frame)) (place : Nat) : Frame :=
  match ring with
  | [] => .zero
  | (p, f) :: rest => if p = place then f else Ring.read rest place

/-- The delay line with a frame written at a place. -/
def Ring.write (ring : List (Nat × Frame)) (place : Nat) (f : Frame) : List (Nat × Frame) :=
  match ring with
  | [] => if f = .zero then [] else [(place, f)]
  | (p, g) :: rest =>
    if place < p then (if f = .zero then (p, g) :: rest else (place, f) :: (p, g) :: rest)
    else if place = p then (if f = .zero then rest else (place, f) :: rest)
    else (p, g) :: Ring.write rest place f

/-- The canonical form: places rising from `low`, below 2,048, and no zero frame listed. -/
def Ring.wfFrom (low : Nat) : List (Nat × Frame) → Bool
  | [] => true
  | (p, f) :: rest => low ≤ p && p < Config.ringFrames && f != .zero && Ring.wfFrom (p + 1) rest

def Ring.wf (ring : List (Nat × Frame)) : Bool := Ring.wfFrom 0 ring

/-! ## Reports, replies and the transmit arbiter (R187, R191, R192) -/

/-- The arbiter's choice on an idle line: the oldest reply, else the oldest report with its lost mark, else nothing. -/
def Link.startIfIdle (l : Link) : Link :=
  match l.sending with
  | some _ => l
  | none =>
    match l.replies with
    | r :: rest => { l with replies := rest, sending := some (.reply r) }
    | [] =>
      match l.reports with
      | r :: rest => { l with reports := rest, sending := some (.report r l.lost), lost := false }
      | [] => l

/-- A report joins the tail of the report queue, or is discarded at a full queue and the lost flag set (R191). -/
def Link.queueReport (l : Link) (r : Report) : Link :=
  if l.reports.length < Config.reportQueue then { l with reports := l.reports ++ [r] } else { l with lost := true }

/-- A report queued; an idle line starts a frame (R192). -/
def Link.postReport (l : Link) (r : Report) : Link := (l.queueReport r).startIfIdle

/-- The reply of a taken request joins the reply queue, which it finds a place in (R187); an idle line starts it. -/
def Link.postReply (l : Link) (r : Reply) : Link := { l with replies := l.replies ++ [r] }.startIfIdle

/-- An immediate reply joins the reply queue if that holds fewer than 8, else it is discarded (R186). -/
def Link.postImmediate (l : Link) (r : Reply) : Link :=
  if l.replies.length < Config.replyQueue then l.postReply r else l

/-- Queue a report that carries the site time of this moment (R190). -/
def State.post (s : State) (subject : Nat) (record : ReportRecord) : State :=
  s.updLink (·.postReport ⟨s.book.siteTime, subject, record⟩)

/-- Queue several reports in order. -/
def State.postAll (s : State) (reports : List (Nat × ReportRecord)) : State :=
  reports.foldl (fun s r => s.post r.1 r.2) s

/-! ## Notices between blocks (log entry 10) -/

/-- A block hands a notice to another. -/
def State.hand (s : State) (n : Notice) : State := { s with notices := s.notices ++ [n] }

/-- A notice is taken: the oldest equal one in flight, if any, leaves. -/
def State.takeNotice (s : State) (n : Notice) : State := { s with notices := s.notices.erase n }

/-! ## Main power (R135, log entry 5) -/

/-- What an event does to a part with main power; an unpowered part does nothing with it. -/
def State.ifPowered (s : State) (f : State → State) : State := if s.powered then f s else s

/-- What a request answers: its result and the data after the result code (R188). -/
structure Answer where
  result : Result
  data : List Byte
  deriving DecidableEq, Repr

/-- A refusal without data. -/
def Answer.refused (r : Result) : Answer := ⟨r, []⟩

/-- OK with data. -/
def Answer.ok (data : List Byte) : Answer := ⟨.ok, data⟩

end Sys2Proof.Machine
end

