-- ==== Sys2Proof/Machine/Flags.lean ====
section
/-! DEFINITION. What is computed from the records: the output lines LAMP and DOUSER (R2), CUE0 to CUE3 (R26) and BARRIER
(R93), the effective policies (R11), the feature path (R48), remaining frames (R1), and the posting of the policy notice. -/

namespace Sys2Proof.Machine

/-- LAMP (R2). -/
def Screen.lampOn (c : Screen) : Bool :=
  match c.state with
  | .striking | .ready | .running | .holding => true
  | .dark | .strikeWait | .closing => false

/-- DOUSER (R2). -/
def Screen.douserOpen (c : Screen) : Bool := c.state == .running

/-- The feature path of the screen's channel (R48). -/
def Screen.featureOpen (c : Screen) : Bool :=
  match c.state with
  | .ready | .running | .holding => true
  | .dark | .strikeWait | .striking | .closing => false

/-- RUNNING or HOLDING, in which LOAD_PROGRAM and LOAD_CUES are refused (R5, R27). -/
def Screen.active (c : Screen) : Bool := c.state == .running || c.state == .holding

/-- The LAMP line of a screen; an unpowered part drives none (log entry 5). -/
def State.lamp (s : State) (i : Fin 6) : Bool := s.powered && s.screens[i].lampOn

/-- The DOUSER line of a screen; an unpowered part drives none (log entry 5). -/
def State.douser (s : State) (i : Fin 6) : Bool := s.powered && s.screens[i].douserOpen

/-- The output CUE0 to CUE3 of a screen (R26); an unpowered part drives none (log entry 5). -/
def State.cueLine (s : State) (i : Fin 6) (l : Fin 4) : Bool := s.powered && s.cues[i].levels[l]

/-- The BARRIER output of a lane follows its barrier (R93); an unpowered part drives none (log entry 5). -/
def State.barrier (s : State) (i : Fin 8) : Bool := s.powered && s.lanes[i].barrierUp

/-- The segments of the loaded program; none when no program is loaded. -/
def Screen.segments (c : Screen) : List Segment := c.program.getD []

/-- The current segment of a screen that has a position. -/
def Screen.current (c : Screen) : Option Segment := c.position.bind fun p => c.segments[p.segment]?

/-- Remaining frames (R1). -/
def Screen.remaining (c : Screen) : Option Nat :=
  match c.position, c.current with
  | some p, some g => some (g.length - p.frame)
  | _, _ => none

/-- The three effective policies. -/
structure Policies where
  gate : GatePolicy
  order : OrderPolicy
  announce : AnnouncePolicy
  deriving DecidableEq, Repr

/-- The effective policies of a screen (R11). A RUNNING or HOLDING screen has a current segment in every state a run
reaches; log entry 17 says what stands for one that has none. -/
def Screen.policies (c : Screen) : Policies :=
  match c.state with
  | .running =>
    match c.current with
    | some g => ⟨g.gate, g.order, g.announce⟩
    | none => ⟨.closed, .closed, .opened⟩
  | .holding =>
    match c.current with
    | some g => ⟨g.gate, g.order, .opened⟩
    | none => ⟨.closed, .closed, .opened⟩
  | .strikeWait | .striking | .ready => ⟨.admitAll, .opened, .opened⟩
  | .dark | .closing => ⟨.closed, .closed, .opened⟩

def State.policies (s : State) (i : Fin 6) : Policies := s.screens[i].policies

/-- An event of the screen unit, with the policy notice it posts when it has changed a policy of the screen (R11). -/
def State.withPolicyNotice (s : State) (i : Fin 6) (f : State → State) : State :=
  if (f s).policies i = s.policies i then f s else (f s).hand (.policy i)

end Sys2Proof.Machine
end

