-- ==== Sys2Proof/Machine/Operands.lean ====
section
/-! DEFINITION. Reading the operands of requests: identifiers within their range, enumerated codes (R189), flags, sets of
screens, and the records of LOAD_PROGRAM, LOAD_CUES, LOAD_MENU and ORDER. `none` is a value out of range. -/

namespace Sys2Proof.Machine

/-- An identifier of a unit, if the byte names one. -/
def unit? (n : Nat) (b : Byte) : Option (Fin n) := if h : b.toNat < n then some ⟨b.toNat, h⟩ else none

/-- A flag byte: 0 is clear, any other value set (R189). -/
def flagOf (b : Byte) : Bool := b != 0

def segmentKind? (b : Byte) : Option SegmentKind :=
  match b.toNat with
  | 0 => some .preshow
  | 1 => some .trailers
  | 2 => some .feature
  | 3 => some .intermission
  | 4 => some .closingReel
  | _ => none

def gatePolicy? (b : Byte) : Option GatePolicy :=
  match b.toNat with
  | 0 => some .admitAll
  | 1 => some .admitLate
  | 2 => some .closed
  | _ => none

def orderPolicy? (b : Byte) : Option OrderPolicy :=
  match b.toNat with
  | 0 => some .opened
  | 1 => some .lastCall
  | 2 => some .closed
  | _ => none

def announcePolicy? (b : Byte) : Option AnnouncePolicy :=
  match b.toNat with
  | 0 => some .opened
  | 1 => some .urgentOnly
  | 2 => some .none
  | _ => none

def laneMode? (b : Byte) : Option LaneMode :=
  match b.toNat with
  | 0 => some .disabled
  | 1 => some .entry
  | 2 => some .exit
  | _ => none

def countPolicy? (b : Byte) : Option CountPolicy :=
  match b.toNat with
  | 0 => some .free
  | 1 => some .keyed
  | _ => none

/-- A segment record within the ranges of R4, R5. -/
def segment? (w : SegmentWire) : Option Segment :=
  match segmentKind? w.kind, gatePolicy? w.gate, orderPolicy? w.order, announcePolicy? w.announce with
  | some k, some g, some o, some a =>
    if w.length = 0 then none
    else some
      { kind := k, length := w.length.toNat, gate := g, order := o, announce := a, holdAtEnd := flagOf w.hold }
  | _, _, _, _ => none

/-- A cue entry within the ranges of R26, R27; the fields its action does not use are dropped. -/
def cue? (w : CueWire) : Option CueEntry :=
  let entry (a : CueAction) : CueEntry :=
    { segment := w.segment.toNat, offset := w.offset.toNat, action := a, report := flagOf w.report }
  if w.segment.toNat ≥ Config.segments then none
  else
    match w.action.toNat with
    | 0 => (unit? 4 w.line).map fun l => entry (.pulse l)
    | 1 => (unit? 4 w.line).map fun l => entry (.set l)
    | 2 => (unit? 4 w.line).map fun l => entry (.clear l)
    | 3 => (unit? 4 w.line).map fun l => entry (.toggle l)
    | 4 => if w.clip = 0 ∨ w.priority.toNat > 3 then none else some (entry (.announce w.clip.toNat w.priority.toNat))
    | _ => none

/-- An item record within the ranges of R140; prep seconds are clamped. -/
def item? (w : ItemWire) : Option Item :=
  match unit? 4 w.station with
  | none => none
  | some st =>
    if (flagOf w.tracked ∧ w.stock.toNat > Config.maxStock) ∨ w.low.toNat > Config.maxStock then none
    else some
      { station := st, prep := min 1800 w.prep.toNat, available := flagOf w.available
        stock := if flagOf w.tracked then some w.stock.toNat else none
        low := w.low.toNat }

/-- A line of an order within the ranges of R163. -/
def line? (w : LineWire) : Option OrderLine :=
  match unit? 128 w.item with
  | none => none
  | some i =>
    if w.quantity.toNat = 0 ∨ w.quantity.toNat > Config.lineQuantity then none else some ⟨i, w.quantity.toNat⟩

/-- Every record of a list within its ranges. -/
def readAll {α β : Type} (f : α → Option β) : List α → Option (List β)
  | [] => some []
  | a :: rest =>
    match f a, readAll f rest with
    | some b, some bs => some (b :: bs)
    | _, _ => none

/-- The screens of a target byte in ascending order: the bit of weight 2 to the power n is Screen n (R189). -/
def targetsOf (b : Byte) : List (Fin 6) := allScreens.filter fun i => b.getLsbD i.val

end Sys2Proof.Machine
end

