-- ==== Sys2Proof/Decode.lean ====
section
/-! DEFINITION. Reading a command from its wire form. The opcode table gives no row any bits, so `decodeTableWord`
answers none for every word (log entry 26). The site link does give each REQUEST a wire form (R189): `decodeRequest`
reads a request from the KIND and BODY of a good frame, total on any bytes, with the two refusals of R187, and
`Request.kind` and `Request.body` write it. -/

namespace Sys2Proof

/-- Why the service does not read a request from a frame whose TAG is good (R187). -/
inductive DecodeError where
  /-- KIND is not a request kind of R189. -/
  | unknownKind
  /-- BODY length differs from the length R189 gives for the kind. -/
  | badLength
  deriving DecidableEq, Repr

/-! ## Multi-byte fields, most significant byte first (R182) -/

def half (hi lo : Byte) : Half := hi ++ lo
def triple (a b c : Byte) : Triple := a ++ b ++ c
def word (a b c d : Byte) : Word := a ++ b ++ c ++ d

def putHalf (x : Half) : List Byte := [x.extractLsb' 8 8, x.extractLsb' 0 8]
def putTriple (x : Triple) : List Byte := [x.extractLsb' 16 8, x.extractLsb' 8 8, x.extractLsb' 0 8]
def putWord (x : Word) : List Byte :=
  [x.extractLsb' 24 8, x.extractLsb' 16 8, x.extractLsb' 8 8, x.extractLsb' 0 8]

/-! ## Repeated items: exactly `n` of them and nothing after -/

def getSegments : Nat → List Byte → Option (List SegmentWire)
  | 0, [] => some []
  | n + 1, k :: l2 :: l1 :: l0 :: g :: o :: a :: h :: rest =>
    (getSegments n rest).map (⟨k, triple l2 l1 l0, g, o, a, h⟩ :: ·)
  | _, _ => none

def getCues : Nat → List Byte → Option (List CueWire)
  | 0, [] => some []
  | n + 1, s :: o2 :: o1 :: o0 :: a :: l :: c :: p :: r :: rest =>
    (getCues n rest).map (⟨s, triple o2 o1 o0, a, l, c, p, r⟩ :: ·)
  | _, _ => none

def getItems : Nat → List Byte → Option (List ItemWire)
  | 0, [] => some []
  | n + 1, s :: p1 :: p0 :: a :: t :: s1 :: s0 :: l1 :: l0 :: rest =>
    (getItems n rest).map (⟨s, half p1 p0, a, t, half s1 s0, half l1 l0⟩ :: ·)
  | _, _ => none

def getLines : Nat → List Byte → Option (List LineWire)
  | 0, [] => some []
  | n + 1, i :: q :: rest => (getLines n rest).map (⟨i, q⟩ :: ·)
  | _, _ => none

def putSegment (g : SegmentWire) : List Byte :=
  [g.kind] ++ putTriple g.length ++ [g.gate, g.order, g.announce, g.hold]
def putCue (c : CueWire) : List Byte :=
  [c.segment] ++ putTriple c.offset ++ [c.action, c.line, c.clip, c.priority, c.report]
def putItem (i : ItemWire) : List Byte :=
  [i.station] ++ putHalf i.prep ++ [i.available, i.tracked] ++ putHalf i.stock ++ putHalf i.low
def putLine (l : LineWire) : List Byte := [l.item, l.quantity]

/-! ## Requests (R189) -/

/-- The bodies of the table of R189: `none` where the length does not fit the kind. -/
def requestBodyOf (kind : Nat) (body : List Byte) : Option (Option Request) :=
  match kind with
  | 0x01 => some (match body with | [] => some .identify | _ => none)
  | 0x02 => some (match body with | [] => some .getStatus | _ => none)
  | 0x03 => some (match body with | [a, b, c, d] => some (.setTime (word a b c d)) | _ => none)
  | 0x04 => some (match body with
    | [s1, s0, a1, a0, b1, b0, c1, c0, d1, d0, e1, e0, f1, f0, w0, w1, w2, w3, w4, w5,
        o1, o0, r1, r0, i1, i0, m] =>
      some (.setSite
        { spacing := half s1 s0
          capacity := ⟨half a1 a0, half b1 b0, half c1 c0, half d1 d0, half e1 e0, half f1 f0⟩
          window := ⟨w0, w1, w2, w3, w4, w5⟩
          orderClip := half o1 o0
          recallClip := half r1 r0
          recallInterval := half i1 i0
          maxRecalls := m })
    | _ => none)
  | 0x05 => some (match body with | [] => some .siteReset | _ => none)
  | 0x10 => some (match body with
    | s :: t1 :: t0 :: c1 :: c0 :: n :: rest =>
      (getSegments n.toNat rest).map (.loadProgram s (half t1 t0) (half c1 c0))
    | _ => none)
  | 0x11 => some (match body with
    | s :: n :: rest => (getCues n.toNat rest).map (.loadCues s)
    | _ => none)
  | 0x12 => some (match body with | [s] => some (.strike s) | _ => none)
  | 0x13 => some (match body with | [s, g, a] => some (.go s g a) | _ => none)
  | 0x14 => some (match body with | [s] => some (.hold s) | _ => none)
  | 0x15 => some (match body with | [s] => some (.resume s) | _ => none)
  | 0x16 => some (match body with | [s] => some (.skip s) | _ => none)
  | 0x17 => some (match body with | [s] => some (.stop s) | _ => none)
  | 0x18 => some (match body with | [s] => some (.getScreen s) | _ => none)
  | 0x20 => some (match body with
    | [c, d1, d0, t1, t0, l1, l0, r1, r0, g1, g0] =>
      some (.setChannel c (half d1 d0) (half t1 t0) (half l1 l0) (half r1 r0) (half g1 g0))
    | _ => none)
  | 0x21 => some (match body with | [c] => some (.getChannel c) | _ => none)
  | 0x22 => some (match body with | [c, p, t] => some (.announce c p t) | _ => none)
  | 0x23 => some (match body with | [e1, e0] => some (.cancelAnnounce (half e1 e0)) | _ => none)
  | 0x24 => some (match body with | [] => some .getAnnounce | _ => none)
  | 0x30 => some (match body with
    | [l, m, d1, d0, t1, t0] => some (.setLane l m (half d1 d0) (half t1 t0))
    | _ => none)
  | 0x31 => some (match body with | [l] => some (.getLane l) | _ => none)
  | 0x32 => some (match body with
    | [l, t1, t0, s, o] => some (.admitCar l (half t1 t0) s o)
    | _ => none)
  | 0x33 => some (match body with | [l] => some (.cancelAdmit l) | _ => none)
  | 0x34 => some (match body with | [t1, t0] => some (.checkout (half t1 t0)) | _ => none)
  | 0x35 => some (match body with | [t1, t0] => some (.getCar (half t1 t0)) | _ => none)
  | 0x40 => some (match body with | [r] => some (.readCount r) | _ => none)
  | 0x41 => some (match body with | [r] => some (.releaseCount r) | _ => none)
  | 0x42 => some (match body with | [p] => some (.setCountPolicy p) | _ => none)
  | 0x50 => some (match body with
    | s :: n :: rest => (getItems n.toNat rest).map (.loadMenu s)
    | _ => none)
  | 0x51 => some (match body with
    | [i, t, s1, s0, l1, l0] => some (.setStock i t (half s1 s0) (half l1 l0))
    | _ => none)
  | 0x52 => some (match body with | [s, o, p1, p0] => some (.setStation s o (half p1 p0)) | _ => none)
  | 0x53 => some (match body with
    | t1 :: t0 :: n :: rest => (getLines n.toNat rest).map (.order (half t1 t0))
    | _ => none)
  | 0x54 => some (match body with | [n1, n0] => some (.cancelOrder (half n1 n0)) | _ => none)
  | 0x55 => some (match body with | [n1, n0] => some (.pickup (half n1 n0)) | _ => none)
  | 0x56 => some (match body with
    | [n1, n0, t1, t0] => some (.getOrder (half n1 n0) (half t1 t0))
    | _ => none)
  | _ => none

/-- The request that a frame's KIND and BODY spell, or why they spell none (R187, R189). A BODY of more than 1,024 bytes has
the right length for no kind. -/
def decodeRequest (kind : Byte) (body : List Byte) : Except DecodeError Request :=
  match requestBodyOf kind.toNat body with
  | none => .error .unknownKind
  | some none => .error .badLength
  | some (some r) => if body.length ≤ Config.maxBody then .ok r else .error .badLength

/-- The KIND of a request's frame (R189). -/
def Request.kind : Request → Byte
  | .identify => 0x01
  | .getStatus => 0x02
  | .setTime _ => 0x03
  | .setSite _ => 0x04
  | .siteReset => 0x05
  | .loadProgram .. => 0x10
  | .loadCues .. => 0x11
  | .strike _ => 0x12
  | .go .. => 0x13
  | .hold _ => 0x14
  | .resume _ => 0x15
  | .skip _ => 0x16
  | .stop _ => 0x17
  | .getScreen _ => 0x18
  | .setChannel .. => 0x20
  | .getChannel _ => 0x21
  | .announce .. => 0x22
  | .cancelAnnounce _ => 0x23
  | .getAnnounce => 0x24
  | .setLane .. => 0x30
  | .getLane _ => 0x31
  | .admitCar .. => 0x32
  | .cancelAdmit _ => 0x33
  | .checkout _ => 0x34
  | .getCar _ => 0x35
  | .readCount _ => 0x40
  | .releaseCount _ => 0x41
  | .setCountPolicy _ => 0x42
  | .loadMenu .. => 0x50
  | .setStock .. => 0x51
  | .setStation .. => 0x52
  | .order .. => 0x53
  | .cancelOrder _ => 0x54
  | .pickup _ => 0x55
  | .getOrder .. => 0x56

/-- The count byte of a list of items (R189). -/
def countByte {α : Type} (items : List α) : Byte := BitVec.ofNat 8 items.length

/-- The BODY of a request's frame (R189). -/
def Request.body : Request → List Byte
  | .identify => []
  | .getStatus => []
  | .setTime t => putWord t
  | .setSite w =>
    putHalf w.spacing ++ (putHalf w.capacity.s0 ++ putHalf w.capacity.s1 ++ putHalf w.capacity.s2
      ++ putHalf w.capacity.s3 ++ putHalf w.capacity.s4 ++ putHalf w.capacity.s5)
      ++ w.window.toList ++ putHalf w.orderClip ++ putHalf w.recallClip ++ putHalf w.recallInterval
      ++ [w.maxRecalls]
  | .siteReset => []
  | .loadProgram s t c gs => [s] ++ putHalf t ++ putHalf c ++ [countByte gs] ++ gs.flatMap putSegment
  | .loadCues s es => [s, countByte es] ++ es.flatMap putCue
  | .strike s => [s]
  | .go s g a => [s, g, a]
  | .hold s => [s]
  | .resume s => [s]
  | .skip s => [s]
  | .stop s => [s]
  | .getScreen s => [s]
  | .setChannel c d t l r g => [c] ++ putHalf d ++ putHalf t ++ putHalf l ++ putHalf r ++ putHalf g
  | .getChannel c => [c]
  | .announce c p t => [c, p, t]
  | .cancelAnnounce e => putHalf e
  | .getAnnounce => []
  | .setLane l m d t => [l, m] ++ putHalf d ++ putHalf t
  | .getLane l => [l]
  | .admitCar l t s o => [l] ++ putHalf t ++ [s, o]
  | .cancelAdmit l => [l]
  | .checkout t => putHalf t
  | .getCar t => putHalf t
  | .readCount r => [r]
  | .releaseCount r => [r]
  | .setCountPolicy p => [p]
  | .loadMenu s is => [s, countByte is] ++ is.flatMap putItem
  | .setStock i t s l => [i, t] ++ putHalf s ++ putHalf l
  | .setStation s o p => [s, o] ++ putHalf p
  | .order t ls => putHalf t ++ [countByte ls] ++ ls.flatMap putLine
  | .cancelOrder n => putHalf n
  | .pickup n => putHalf n
  | .getOrder n t => putHalf n ++ putHalf t

/-- A frame can carry the request: its count fits one byte and its body 1,024 bytes (R189). -/
def Request.fits : Request → Bool
  | .loadProgram _ _ _ gs => gs.length ≤ 127
  | .loadCues _ es => es.length ≤ 113
  | .loadMenu _ is => is.length ≤ 113
  | .order _ ls => ls.length ≤ 255
  | _ => true

/-- The command that a word of the opcode table spells: the table gives no row any bits, so none does. -/
def decodeTableWord (_nbits _w : Nat) : Option Instr := none

end Sys2Proof
end

