-- ==== Sys2Proof/Machine/Wire.lean ====
section
/-! DEFINITION. What the part sends: the CHECK of R183, the frame layout of R182, the codes of R188 to R190, and the
bytes of every report. A reply's data bytes are made by the meaning that answers. Field widths follow R189: as many bytes
as the field's range needs (log entries 11 to 14 name what R189 leaves to a reading). -/

namespace Sys2Proof.Machine

/-! ## Fields (R189) -/

def u8 (n : Nat) : List Byte := [BitVec.ofNat 8 n]
def u16 (n : Nat) : List Byte := putHalf (BitVec.ofNat 16 n)
def u24 (n : Nat) : List Byte := putTriple (BitVec.ofNat 24 n)
def u32 (w : Word) : List Byte := putWord w

/-- A flag, and any value given as set or clear or as yes or no: set and yes are 1, the model's choice (log entry 35). -/
def flag (b : Bool) : List Byte := if b then [1] else [0]

/-- A presence byte, and the value when present. -/
def optional {α : Type} (f : α → List Byte) : Option α → List Byte
  | none => [0]
  | some a => 1 :: f a

/-- A count byte and the items. -/
def listed {α : Type} (f : α → List Byte) (items : List α) : List Byte := u8 items.length ++ items.flatMap f

/-- A set of units as one byte: the bit of weight 2 to the power n is unit n. R189 says so for a set of screens; that a set of
stations (R179) is coded in the same way is the model's choice (log entry 39). -/
def unitSet {n : Nat} (units : List (Fin n)) : List Byte :=
  [units.foldl (fun b i => b ||| BitVec.ofNat 8 (2 ^ i.val)) 0]

/-! ## Codes, from 0 upward in the order in which the owning rule lists the values (R189; log entry 12) -/

def ScreenState.code : ScreenState → Nat
  | .dark => 0 | .strikeWait => 1 | .striking => 2 | .ready => 3 | .running => 4 | .holding => 5 | .closing => 6

def HoldReason.code : HoldReason → Nat
  | .none => 0 | .operator => 1 | .segmentHold => 2 | .pictureLost => 3

def StateReason.code : StateReason → Nat
  | .strike => 0 | .grant => 1 | .stop => 2 | .struck => 3 | .go => 4 | .operator => 5 | .segmentHold => 6
  | .pictureLost => 7 | .resume => 8 | .skip => 9 | .programEnd => 10 | .cooled => 11

def SegmentKind.code : SegmentKind → Nat
  | .preshow => 0 | .trailers => 1 | .feature => 2 | .intermission => 3 | .closingReel => 4

def GatePolicy.code : GatePolicy → Nat
  | .admitAll => 0 | .admitLate => 1 | .closed => 2

def OrderPolicy.code : OrderPolicy → Nat
  | .opened => 0 | .lastCall => 1 | .closed => 2

def AnnouncePolicy.code : AnnouncePolicy → Nat
  | .opened => 0 | .urgentOnly => 1 | .none => 2

def CueAction.code : CueAction → Nat
  | .pulse _ => 0 | .set _ => 1 | .clear _ => 2 | .toggle _ => 3 | .announce _ _ => 4

def DuckMode.code : DuckMode → Nat
  | .unity => 0 | .level => 1

def EntryKind.code : EntryKind → Nat
  | .call .orderReady => 0 | .call .recall => 1 | .showNotice => 2 | .operator => 3

def PathState.code : PathState → Nat
  | .idle => 0 | .ducking => 1 | .playing => 2

/-- DONE, TIMEOUT, CANCELLED as R80 lists them. -/
def playOutcomeCode : PlayOutcome → Nat
  | .finished => 0 | .timeout => 1 | .cancelled => 2

def LaneMode.code : LaneMode → Nat
  | .disabled => 0 | .entry => 1 | .exit => 2

def Direction.code : Direction → Nat
  | .none => 0 | .fwd => 1 | .rev => 2

def CarState.code : CarState → Nat
  | .pending => 0 | .onLot => 1

def RecordState.code : RecordState → Nat
  | .free => 0 | .opened => 1 | .closed => 2

def CountPolicy.code : CountPolicy → Nat
  | .free => 0 | .keyed => 1

def OrderState.code : OrderState → Nat
  | .taken => 0 | .ready => 1 | .called => 2 | .orphaned => 3

/-- EXPIRED, CANCELLED, TEARDOWN as R105 lists them. -/
def AdmissionEnd.code : AdmissionEnd → Nat
  | .expired => 0 | .cancelled => 1 | .teardown => 2

/-- PICKED, EXPIRED, CANCELLED, ORPHANED, ORPHAN_DONE as R178 lists them. -/
def OrderEnd.code : OrderEnd → Nat
  | .picked => 0 | .expired => 1 | .cancelled => 2 | .orphaned => 3 | .orphanDone => 4

def StockCondition.code : StockCondition → Nat
  | .low => 0 | .soldOut => 1

def AudioCondition.code : AudioCondition → Nat
  | .overrun => 0 | .underrun => 1

def StartCause.code : StartCause → Nat
  | .powerOn => 0 | .siteReset => 1

/-- A value listed "open or closed": open 0, closed 1 (log entry 12). -/
def openCode (isOpen : Bool) : List Byte := u8 (if isOpen then 0 else 1)

/-- A loop level listed "occupied or clear": occupied 0, clear 1 (log entry 12). -/
def loopCode (occupied : Bool) : List Byte := u8 (if occupied then 0 else 1)

/-- A value listed "low or high", "down or up", "LOCKED or OFFICE": the first 0, the second 1. -/
def secondCode (isSecond : Bool) : List Byte := u8 (if isSecond then 1 else 0)

/-- The result codes of R188. -/
def Result.code : Result → Nat
  | .ok => 0 | .badFrame => 1 | .badTag => 2 | .unknownKind => 3 | .badLength => 4 | .outOfRange => 5
  | .linkBusy => 6 | .state => 7 | .screenActive => 8 | .cooling => 9 | .noProgram => 10 | .cueRange => 11
  | .countBookFull => 12 | .queueFull => 13 | .noSuchEntry => 14 | .notCancellable => 15 | .wrongLaneMode => 16
  | .laneBusy => 17 | .gateClosed => 18 | .lotFull => 19 | .duplicateTag => 20 | .unknownCar => 21
  | .notOnLot => 22 | .capacityInUse => 23 | .keyRequired => 24 | .carLimit => 25 | .orderingClosed => 26
  | .itemUnavailable => 27 | .stationClosed => 28 | .soldOut => 29 | .orderTableFull => 30 | .stationFull => 31
  | .tooLate => 32 | .noSuchOrder => 33

/-! ## Groups of fields -/

def positionBytes (p : Position) : List Byte := u8 p.segment ++ u24 p.frame

def attributionBytes (a : Attribution) : List Byte := u8 a.screen.val ++ u8 a.record.val ++ u16 a.show_

def segmentBytes (g : Segment) : List Byte :=
  u8 g.kind.code ++ u24 g.length ++ u8 g.gate.code ++ u8 g.order.code ++ u8 g.announce.code ++ flag g.holdAtEnd

/-- The fields of a count record in the order of R123. The model's choice (log entry 11): screen, show number and opened
time, absent together in a FREE record, have a presence byte each. -/
def recordBytes (number : Fin 16) (r : CountRecord) : List Byte :=
  u8 number.val ++ u8 r.state.code ++ optional (fun i : Fin 6 => u8 i.val) r.screen ++ optional u16 r.show_
    ++ optional u32 r.openedAt ++ optional u32 r.closedAt ++ flag r.interrupted
    ++ u16 r.counts.programsRun ++ u16 r.counts.admissions ++ u16 r.counts.lateAdmissions
    ++ u24 r.counts.occupants ++ u16 r.counts.admissionsExpired ++ u16 r.counts.backouts
    ++ u16 r.counts.tailgates ++ u16 r.counts.ordersTaken ++ u24 r.counts.unitsSold
    ++ u16 r.counts.ordersPicked ++ u16 r.counts.ordersExpired ++ u16 r.counts.ordersCancelled

/-- The line of a line action. -/
def CueAction.line : CueAction → Option (Fin 4)
  | .pulse l => some l
  | .set l => some l
  | .clear l => some l
  | .toggle l => some l
  | .announce _ _ => none

/-- The last five fields of a CUE report (R36): line, level, clip code, priority and entry number. The model's choice (log
entry 11): each has a presence byte of its own, set for the actions that R36 names. -/
def cueFields (action : CueAction) (level : Bool) (entry : Nat) : List Byte :=
  match action with
  | .announce clip priority => [0, 0] ++ (1 :: u8 clip) ++ (1 :: u8 priority) ++ (1 :: u16 entry)
  | a => optional (fun l : Fin 4 => u8 l.val) a.line ++ (1 :: secondCode level) ++ [0, 0, 0]

/-- The fields of an on-air record in its reports (R80). The model's choice (log entry 11): tag and order number, which one
row of R80's table names, have a presence byte each. -/
def onAirBytes (r : OnAir) : List Byte :=
  u16 r.number ++ u8 r.kind.code ++ u8 r.priority ++ u8 r.clip ++ unitSet r.granted ++ optional u16 r.tag
    ++ optional u16 r.order

/-! ## Reports (R190) -/

/-- The report kind codes of R190. -/
def ReportRecord.code : ReportRecord → Nat
  | .start .. => 0x01
  | .screenState .. => 0x02
  | .segment .. => 0x03
  | .cue .. => 0x04
  | .admitted .. => 0x05
  | .admissionEnded .. => 0x06
  | .backout .. => 0x07
  | .tailgate .. => 0x08
  | .exit => 0x09
  | .wrongWay => 0x0A
  | .onAir .. => 0x0B
  | .playDone .. => 0x0C
  | .dropped .. => 0x0D
  | .orderReady .. => 0x0E
  | .orderEnded .. => 0x0F
  | .stock .. => 0x10
  | .audio .. => 0x11
  | .key .. => 0x12
  | .countClosed .. => 0x13

/-- The bytes of a report's record, in the order in which its owning rule lists the fields. The model's choices: `counted`
(R105, R178) and the remainder mark (R80), listed "yes or no", are sent as flags, yes 1 and no 0 (log entry 35); the ready
time of ORDER_READY, and the show number and times of COUNT_CLOSED, are always there and have no presence byte (log
entry 13). -/
def ReportRecord.bytes : ReportRecord → List Byte
  | .start cause backupLost => u8 cause.code ++ flag backupLost ++ u8 Config.revision
  | .screenState left entered reason hold bound =>
    u8 left.code ++ u8 entered.code ++ u8 reason.code ++ u8 hold.code ++ optional (fun r : Fin 16 => u8 r.val) bound
  | .segment index g => u8 index ++ segmentBytes g
  | .cue index p action level entry =>
    u8 index ++ positionBytes p ++ u8 action.code ++ cueFields action level entry
  | .admitted tag screen record occupants late capture =>
    u16 tag ++ u8 screen.val ++ u8 record.val ++ u8 occupants ++ flag late ++ optional positionBytes capture
  | .admissionEnded tag screen record reason => u16 tag ++ u8 screen.val ++ u8 record.val ++ u8 reason.code
  | .backout a counted tag => optional attributionBytes a ++ flag counted ++ optional u16 tag
  | .tailgate a counted => optional attributionBytes a ++ flag counted
  | .exit => []
  | .wrongWay => []
  | .onAir r remainder => onAirBytes r ++ flag remainder
  | .playDone r outcome remainder => onAirBytes r ++ u8 (playOutcomeCode outcome) ++ flag remainder
  | .dropped index clip priority p => u8 index ++ u8 clip ++ u8 priority ++ positionBytes p
  | .orderReady number tag screen taken readyAt entry =>
    u16 number ++ u16 tag ++ u8 screen.val ++ u32 taken ++ u32 readyAt ++ u16 entry
  | .orderEnded number tag screen reason calls left counted =>
    u16 number ++ u16 tag ++ u8 screen.val ++ u8 reason.code ++ u8 calls ++ flag left ++ flag counted
  | .stock item condition after low order =>
    u8 item.val ++ u8 condition.code ++ u16 after ++ u16 low ++ u16 order
  | .audio condition pathOpen => u8 condition.code ++ openCode pathOpen
  | .key office policy => secondCode office ++ u8 policy.code
  | .countClosed record show_ openedAt closedAt interrupted =>
    u8 record.val ++ u16 show_ ++ u32 openedAt ++ u32 closedAt ++ flag interrupted

/-! ## Frames and their CHECK (R182, R183) -/

/-- One shift of the CHECK register. -/
def crcBit (r : Half) : Half := if r.getLsbD 15 then (r <<< 1) ^^^ 0x1021 else r <<< 1

/-- The CHECK register after a further byte. -/
def crcByte (r : Half) (b : Byte) : Half :=
  crcBit (crcBit (crcBit (crcBit (crcBit (crcBit (crcBit (crcBit (r ^^^ (b.setWidth 16 <<< 8)))))))))

/-- The CHECK over the bytes from LEN to the end of BODY. -/
def crc (bytes : List Byte) : Half := bytes.foldl crcByte 0xFFFF

/-- A whole frame: SYNC, LEN, KIND, TAG, BODY, CHECK. -/
def frameBytes (kind tag : Byte) (body : List Byte) : List Byte :=
  let inner := u16 (body.length + 2) ++ [kind, tag] ++ body
  0xA5 :: inner ++ putHalf (crc inner)

/-- A reply's frame: KIND 0x80, the result code and the data (R188). -/
def Reply.bytes (r : Reply) : List Byte := frameBytes 0x80 r.tag (u8 r.result.code ++ r.data)

/-- A report's frame: KIND 0x81, TAG 0, kind, time, subject, record and lost mark (R190). -/
def Report.bytes (r : Report) (lostMark : Bool) : List Byte :=
  frameBytes 0x81 0 (u8 r.record.code ++ u32 r.time ++ u8 r.subject ++ r.record.bytes ++ flag lostMark)

/-- The bytes on TX of the frame being sent. -/
def Sending.bytes : Sending → List Byte
  | .reply r => r.bytes
  | .report r lostMark => r.bytes lostMark

/-! ## Bytes on the line (R181) -/

/-- A byte on the line, one level a bit time: the start bit, eight data bits least significant first, the stop bit. True is
the stop-bit level and the level of a data bit 1 (log entry 27). -/
def lineBits (b : Byte) : List Bool := false :: (List.range 8).map (fun k => b.getLsbD k) ++ [true]

/-- The bit times of the frame being sent, its bytes back to back. -/
def Link.txBits (l : Link) : List Bool :=
  match l.sending with
  | none => []
  | some x => x.bytes.flatMap lineBits

/-- The rate read at the last start (R181). -/
def Link.baud (l : Link) : Nat := if l.fastBaud then 921600 else 115200

/-- The level of TX, `k` bit times after the start of the frame being sent; with none, and after its last stop bit, the line
rests at the stop-bit level (R181). An unpowered part drives none (log entry 5). -/
def State.tx (s : State) (k : Nat) : Bool := s.powered && s.link.txBits[k]?.getD true

end Sys2Proof.Machine
end

