-- ==== Sys2Proof/Machine/Sound.lean ====
section
/-! DEFINITION. The sound engine (03_in_car_sound_channels.md): the tick, feature input, ducking, SET_CHANNEL and
GET_CHANNEL. -/

namespace Sys2Proof.Machine

/-! ## Ducking (R39, R52 to R54) -/

/-- The duck target (R39). -/
def Channel.target (c : Channel) : Nat :=
  match c.mode with
  | .unity => Config.unity
  | .level => c.duckLevel

/-- The condition of the at-level indication (R54). -/
def Channel.reached (c : Channel) : Bool := c.mode == .level && c.duckGain == c.duckLevel

/-- The channel with its at-level indication brought up to date. -/
def Channel.refresh (c : Channel) : Channel := { c with atLevel := c.reached }

/-- Replace a channel and, where its at-level indication goes from clear to set, hand the at-level notice (R54). -/
def State.putChannel (s : State) (i : Fin 6) (c : Channel) : State :=
  let t := s.updChannel i fun _ => c
  if c.atLevel && !s.channels[i].atLevel then t.hand (.atLevel i) else t

/-- The announce path sets a channel's duck target mode (R52). -/
def State.setMode (s : State) (mode : DuckMode) (i : Fin 6) : State :=
  s.putChannel i { s.channels[i] with mode := mode }.refresh

/-- The announce path opens or closes a channel's announce feed (R52). -/
def State.setFeed (s : State) (isOpen : Bool) (i : Fin 6) : State := s.updChannel i fun c => { c with feedOpen := isOpen }

/-! ## The tick (R40) -/

/-- Stage 1: the frame the channel takes, 0 on both sides from an empty queue (R42). -/
def Channel.taken (c : Channel) : Frame :=
  match c.input with
  | f :: _ => f
  | [] => .zero

/-- Stage 1: the queue after it, and the underrun flag (R42). -/
def Channel.afterInput (c : Channel) : Channel :=
  match c.input with
  | _ :: rest => { c with input := rest }
  | [] => { c with underrun := true }

/-- Stage 2: the delay line with the frame written, and the write point moved on (R44). -/
def Channel.afterWrite (c : Channel) (f : Frame) : Channel :=
  { c with ring := Ring.write c.ring c.writePoint f, writePoint := (c.writePoint + 1) % Config.ringFrames }

/-- Stage 3: the frame written `delay` ticks before the present tick's write at `writtenAt` (R44). -/
def Channel.delayed (c : Channel) (writtenAt : Nat) : Frame :=
  Ring.read c.ring ((writtenAt + Config.ringFrames - c.delay) % Config.ringFrames)

/-- One step of the duck gain toward its target (R53). -/
def rampStep (gain target step : Nat) : Nat :=
  if gain < target then min target (gain + step) else if target < gain then max target (gain - step) else gain

/-- Stage 4 (R53, R54). -/
def Channel.afterRamp (c : Channel) : Channel :=
  { c with duckGain := Sys2Proof.Machine.rampStep c.duckGain c.target c.rampStep }.refresh

/-- The feature term of a side (R49); Lean's division by a positive number rounds down. -/
def featureTerm (pathOpen : Bool) (f : Half) (trim gain : Nat) : Int :=
  if pathOpen then (f.toInt * (trim : Int) * (gain : Int) + 2 ^ 27) / 2 ^ 28 else 0

/-- The announce term of a side (R50). -/
def announceTerm (feedOpen : Bool) (a : Half) (gain : Nat) : Int :=
  if feedOpen then (a.toInt * (gain : Int) + 2 ^ 13) / 2 ^ 14 else 0

/-- Saturation to a sample (R51). -/
def saturateSample (y : Int) : Int := max (-32768) (min 32767 y)

/-- The sum of the two terms of one side before saturation (R51). -/
def Channel.mixed (c : Channel) (pathOpen : Bool) (a f : Half) : Int :=
  featureTerm pathOpen f c.trim c.duckGain + announceTerm c.feedOpen a c.announceGain

/-- Stages 5 and 6: the output frame and the clip flag (R51, R56). -/
def Channel.afterMix (c : Channel) (pathOpen : Bool) (a : Half) (f : Frame) : Channel :=
  let l := c.mixed pathOpen a f.left
  let r := c.mixed pathOpen a f.right
  { c with
    output := ⟨BitVec.ofInt 16 (saturateSample l), BitVec.ofInt 16 (saturateSample r)⟩
    clip := c.clip || saturateSample l != l || saturateSample r != r }

/-- A word on a serial audio port, most significant bit first (R56). -/
def serialBits (w : Half) : List Bool := (List.range 16).map fun k => w.getLsbD (15 - k)

/-- What exciter output port n sends in a period of the site word clock (R56): the channel's output frame, left word first,
which its tick at the beginning of the period made. An unpowered part sends nothing (log entry 5). -/
def State.exciter (s : State) (i : Fin 6) : List Bool :=
  if s.powered then serialBits s.channels[i].output.left ++ serialBits s.channels[i].output.right else []

/-- One tick of a channel, stages 1 to 6 (R40). -/
def Channel.tick (c : Channel) (pathOpen : Bool) (a : Half) : Channel :=
  let c2 := c.afterInput.afterWrite c.taken
  c2.afterRamp.afterMix pathOpen a (c2.delayed c.writePoint)

/-- An AUDIO report of a channel (R43). -/
def State.postAudio (s : State) (i : Fin 6) (condition : AudioCondition) : State :=
  s.post i.val (.audio condition s.screens[i].featureOpen)

/-- SITE_SAMPLE_TICK (R40): the announcement sample is the left word of the announce port's frame (R50). -/
def execSiteSampleTick (i : Fin 6) (portLeft _portRight : Half) (s : State) : Host.Outcome State Fault Refusal :=
  .next (s.ifPowered fun s =>
    let c := s.channels[i]
    let s1 := if c.input.isEmpty && !c.underrun then s.postAudio i .underrun else s
    s1.putChannel i (c.tick s.screens[i].featureOpen portLeft))

/-- FEATURE_FRAME_ARRIVAL (R41). -/
def execFeatureFrameArrival (i : Fin 6) (left right : Half) (s : State) : Host.Outcome State Fault Refusal :=
  .next (s.ifPowered fun s =>
    let c := s.channels[i]
    if c.input.length < Config.inputQueue then s.updChannel i fun c => { c with input := c.input ++ [⟨left, right⟩] }
    else
      let t := s.updChannel i fun c => { c with overrun := true }
      if c.overrun then t else t.postAudio i .overrun)

/-! ## Requests (R46, R47) -/

/-- The five settings as stored, for a reply. -/
def settingsBytes (c : Channel) : List Byte :=
  u16 c.delay ++ u16 c.trim ++ u16 c.duckLevel ++ u16 c.rampStep ++ u16 c.announceGain

/-- The channel with five settings clamped and stored, and its indication brought up to date (R46). -/
def Channel.withSettings (c : Channel) (delay trim duckLevel rampStep announceGain : Half) : Channel :=
  { c with
    delay := clamp 0 2047 delay.toNat
    trim := clamp 0 32767 trim.toNat
    duckLevel := clamp 0 16384 duckLevel.toNat
    rampStep := clamp 1 1024 rampStep.toNat
    announceGain := clamp 0 32767 announceGain.toNat }.refresh

/-- SET_CHANNEL (R46). -/
def setChannelEffect (channel : Byte) (delay trim duckLevel rampStep announceGain : Half) (s : State) : State × Answer :=
  match unit? 6 channel with
  | none => (s, .refused .outOfRange)
  | some i =>
    let c := s.channels[i].withSettings delay trim duckLevel rampStep announceGain
    (s.putChannel i c, .ok (settingsBytes c))

/-- The reply fields of GET_CHANNEL (R47). The model's choice (log entry 35): the at-level indication and the three flags are
1 when set and 0 when clear. -/
def channelBytes (c : Channel) (pathOpen : Bool) : List Byte :=
  settingsBytes c ++ u16 c.duckGain ++ u16 c.target ++ u8 c.mode.code ++ flag c.atLevel ++ openCode c.feedOpen
    ++ openCode pathOpen ++ u8 c.input.length ++ flag c.overrun ++ flag c.underrun ++ flag c.clip

/-- GET_CHANNEL (R47): the reply, then the three flags cleared. -/
def getChannelEffect (channel : Byte) (s : State) : State × Answer :=
  match unit? 6 channel with
  | none => (s, .refused .outOfRange)
  | some i =>
    (s.updChannel i fun c => { c with overrun := false, underrun := false, clip := false },
      .ok (channelBytes s.channels[i] s.screens[i].featureOpen))

end Sys2Proof.Machine
end

