-- ==== Sys2Proof/Machine/Announce.lean ====
section
/-! DEFINITION. The announce path (04_the_announcement_queue_and_announce_path.md): enqueue, grant, the on-air slot, the
player, and the requests ANNOUNCE, CANCEL_ANNOUNCE and GET_ANNOUNCE. -/

namespace Sys2Proof.Machine

/-! ## Eligibility (R62) -/

/-- A screen whose announce policy is `p` admits a priority. -/
def AnnouncePolicy.takes (p : AnnouncePolicy) (priority : Nat) : Bool :=
  match p with
  | .opened => true
  | .urgentOnly => priority == 3
  | .none => false

/-- The eligible targets of an entry under the policies of the moment. -/
def State.eligible (s : State) (e : Entry) : List (Fin 6) :=
  e.targets.filter fun i => (s.policies i).announce.takes e.priority

/-- The place and entry of highest priority among those that pass `ok`, the earliest of equals (R64). -/
def bestEntry (ok : Entry → Bool) : List Entry → Option (Nat × Entry)
  | [] => none
  | e :: rest =>
    match (bestEntry ok rest).map fun b => (b.1 + 1, b.2) with
    | none => if ok e then some (0, e) else none
    | some b => if ok e && b.2.priority ≤ e.priority then some (0, e) else some b

/-! ## The player (R66, R67) -/

/-- Send a word on PLAY. -/
def State.sendPlay (s : State) (w : PlayWord) : State := { s with playWords := s.playWords ++ [w] }

/-- Part of the entry with this number still waits (R80). -/
def State.remainderWaits (s : State) (number : Nat) : Bool := s.announce.queue.any (·.number == number)

/-- The subject of an announce report: the lowest-numbered granted screen (R80). -/
def OnAir.subject (r : OnAir) : Nat :=
  match r.granted with
  | i :: _ => i.val
  | [] => 0

/-- Every granted channel's at-level indication is set (R67). -/
def State.allAtLevel (s : State) (r : OnAir) : Bool := r.granted.all fun i => s.channels[i].atLevel

/-- The entry to PLAYING (R67). -/
def State.enterPlaying (s : State) (r : OnAir) : State :=
  let s1 := s.updAnnounce fun a => { a with state := .playing, timer := .start Config.playerMs }
  let s2 := r.granted.foldl (fun s i => s.setFeed true i) s1
  let s3 := s2.sendPlay ⟨r.clip, r.tag.getD 0⟩
  s3.post r.subject (.onAir r (s3.remainderWaits r.number))

/-- The test of R65 and R67: with every granted channel at level the path enters PLAYING. -/
def State.testPlaying (s : State) (r : OnAir) : State := if s.allAtLevel r then s.enterPlaying r else s

/-! ## The grant (R63 to R65) -/

/-- The on-air record of an entry granted to some of its targets. -/
def Entry.granted (e : Entry) (targets : List (Fin 6)) : OnAir :=
  { number := e.number, kind := e.kind, priority := e.priority, granted := targets, clip := e.clip, tag := e.tag
    order := e.order }

/-- The queue after a grant has taken some targets of the entry at a place (R64). -/
def queueAfterGrant (queue : List Entry) (place : Nat) (e : Entry) (rest : List (Fin 6)) : List Entry :=
  if rest.isEmpty then queue.eraseIdx place else queue.set place { e with targets := rest }

/-- The grant of the entry at a place (R64, R65). -/
def State.grantEntry (s : State) (place : Nat) (e : Entry) : State :=
  let targets := s.eligible e
  let rest := e.targets.filter fun i => !((s.policies i).announce.takes e.priority)
  let r := e.granted targets
  let s1 := s.updAnnounce fun a =>
    { a with queue := queueAfterGrant a.queue place e rest, onAir := some r, state := .ducking }
  let s2 := (targets.foldl (fun s i => s.setMode .level i) s1).testPlaying r
  if rest.isEmpty then s2.hand .slotFree else s2

/-- The grant, which runs only while the path is IDLE (R63). -/
def State.grant (s : State) : State :=
  match s.announce.state with
  | .idle =>
    match bestEntry (fun e => !(s.eligible e).isEmpty) s.announce.queue with
    | none => s
    | some (place, e) => s.grantEntry place e
  | .ducking | .playing => s

/-! ## Enqueue (R59, R60) -/

/-- The live entry numbers (R59). -/
def AnnouncePath.liveNumbers (a : AnnouncePath) : List Nat :=
  a.queue.map (·.number) ++ (a.onAir.map (·.number)).toList

/-- An enqueue: the entry's number, or none when the queue is full, and the state after it. -/
def State.enqueue (s : State) (kind : EntryKind) (priority : Nat) (targets : List (Fin 6)) (clip : Nat)
    (tag order : Option Nat) : Option Nat × State :=
  if s.announce.queue.length < Config.announceQueue then
    let live := s.announce.liveNumbers
    let n := pickNumber live live.length s.announce.nextEntry
    let e : Entry :=
      { number := n, kind := kind, priority := priority, targets := targets, clip := clip, tag := tag, order := order }
    (some n, (s.updAnnounce fun a => { a with queue := a.queue ++ [e], nextEntry := nextNumber n }).grant)
  else (none, s)

/-! ## Endings (R70, R71, R75, R77) -/

/-- Release of the granted channels: mode UNITY and feed closed (R52). -/
def State.releaseChannels (s : State) (r : OnAir) : State :=
  r.granted.foldl (fun s i => (s.setMode .unity i).setFeed false i) s

/-- The call-played notice of an ORDER_READY or RECALL record (R79). -/
def State.handCallPlayed (s : State) (r : OnAir) (outcome : PlayOutcome) : State :=
  match r.kind, r.order with
  | .call k, some n => s.hand (.callPlayed n r.number k outcome)
  | _, _ => s

/-- The slot emptied, the timer stopped and the path IDLE. -/
def State.emptySlot (s : State) : State :=
  s.updAnnounce fun a => { a with onAir := none, state := .idle, timer := none }

/-- The end of what an on-air record holds: the slot emptied, the channels released, then the grant (R71, R75). -/
def State.vacate (s : State) (r : OnAir) : State := (s.emptySlot.releaseChannels r).grant

/-- The ANNOUNCE_DONE report of a play that ends (R80), queued before the slot empties. It records the state at the end of
the event (R190), so its remainder mark is the one that the event's grant leaves (log entry 34). -/
def State.reportDone (s : State) (r : OnAir) (outcome : PlayOutcome) : State :=
  s.post r.subject (.playDone r outcome ((s.vacate r).remainderWaits r.number))

/-- The end of a play with outcome DONE or TIMEOUT (R71). -/
def State.endPlay (s : State) (r : OnAir) (outcome : PlayOutcome) : State :=
  ((s.reportDone r outcome).handCallPlayed r outcome).vacate r

/-- A cancel of the on-air record (R75): the STOP word in PLAYING, none in DUCKING. -/
def State.cancelOnAir (s : State) (r : OnAir) : State :=
  let s1 := if s.announce.state = .playing then s.sendPlay .stop else s
  (s1.reportDone r .cancelled).vacate r

/-- A waiting entry is the call of an order. -/
def Entry.isCallOf (e : Entry) (number : Nat) : Bool :=
  match e.kind with
  | .call _ => e.order == some number
  | _ => false

/-- The withdrawal of an order's waiting call (R77). -/
def State.withdraw (s : State) (number : Nat) : State :=
  if s.announce.queue.any (·.isCallOf number) then
    (s.updAnnounce fun a => { a with queue := a.queue.eraseP (·.isCallOf number) }).hand .slotFree
  else s

/-! ## Events -/

/-- AT_LEVEL_NOTICE (R67, R68). -/
def execAtLevelNotice (i : Fin 6) (s : State) : Host.Outcome State Fault Refusal :=
  .next (s.ifPowered fun s =>
    let s1 := s.takeNotice (.atLevel i)
    match s.announce.state, s.announce.onAir with
    | .ducking, some r => s1.testPlaying r
    | _, _ => s1)

/-- POLICY_NOTICE (R72). -/
def execPolicyNotice (i : Fin 6) (s : State) : Host.Outcome State Fault Refusal :=
  .next (s.ifPowered fun s => (s.takeNotice (.policy i)).grant)

/-- DONE (R69): a rise of the line ends the record in PLAYING; every other change only moves the line. -/
def execDone (level : Bool) (s : State) : Host.Outcome State Fault Refusal :=
  let t := { s with doneLine := level }
  .next (if s.powered && level && !s.doneLine then
    match s.announce.state, s.announce.onAir with
    | .playing, some r => t.endPlay r .finished
    | _, _ => t
  else t)

/-- PLAYER_TIMER_EXPIRY (R70). -/
def execPlayerTimerExpiry (s : State) : Host.Outcome State Fault Refusal :=
  .next (s.ifPowered fun s =>
    match s.announce.state, s.announce.onAir, s.announce.timer with
    | .playing, some r, some _ => (s.sendPlay .stop).endPlay r .timeout
    | _, _, _ => s)

/-! ## Requests (R73, R74, R76) -/

/-- ANNOUNCE (R73). -/
def announceEffect (clip priority targets : Byte) (s : State) : State × Answer :=
  if clip = 0 ∨ priority.toNat > 3 ∨ targets = 0 ∨ targets.toNat > 63 then (s, .refused .outOfRange)
  else
    match s.enqueue .operator priority.toNat (targetsOf targets) clip.toNat none none with
    | (some n, t) => (t, .ok (u16 n))
    | (none, _) => (s, .refused .queueFull)

/-- The kind of the live announcement that carries a number (R74). -/
def State.kindOf (s : State) (number : Nat) : Option EntryKind :=
  match s.announce.queue.find? (·.number == number) with
  | some e => some e.kind
  | none => (s.announce.onAir.filter (·.number == number)).map (·.kind)

/-- CANCEL_ANNOUNCE (R74): the waiting part first, then the on-air part, then the slot-free notice (R78). The reply's two
indications are flags (log entry 35). -/
def cancelAnnounceEffect (entry : Half) (s : State) : State × Answer :=
  match s.kindOf entry.toNat with
  | none => (s, .refused .noSuchEntry)
  | some (.call _) => (s, .refused .notCancellable)
  | some .showNotice | some .operator =>
    let waiting := s.remainderWaits entry.toNat
    let s1 := s.updAnnounce fun a => { a with queue := a.queue.eraseP (·.number == entry.toNat) }
    let air := s.announce.onAir.filter (·.number == entry.toNat)
    let s2 := match air with
      | some r => s1.cancelOnAir r
      | none => s1
    (if waiting then s2.hand .slotFree else s2, .ok (flag waiting ++ flag air.isSome))

/-- A waiting entry in the reply of GET_ANNOUNCE (R76). The model's choice (log entry 11): tag and order number have a
presence byte each. -/
def entryBytes (place : Nat) (e : Entry) (eligible : Bool) : List Byte :=
  u8 place ++ u16 e.number ++ u8 e.kind.code ++ u8 e.priority ++ unitSet e.targets ++ u8 e.clip
    ++ optional u16 e.tag ++ optional u16 e.order ++ flag eligible

/-- GET_ANNOUNCE (R76). The model's choices: tag and order number have a presence byte each (log entry 11), an at-level
indication that is set is 1 (log entry 35), and the at-level indications stand in ascending screen number, the order in which
the granted targets are held (log entry 38). -/
def getAnnounceEffect (s : State) : State × Answer :=
  let a := s.announce
  (s, .ok
    (u8 a.state.code
      ++ optional (fun r : OnAir => u16 r.number ++ u8 r.kind.code ++ u8 r.priority ++ u8 r.clip ++ optional u16 r.tag
          ++ optional u16 r.order ++ unitSet r.granted) a.onAir
      ++ optional (fun ms => u8 (secondsUp ms)) a.timer
      ++ optional (fun r : OnAir => listed (fun i : Fin 6 => flag s.channels[i].atLevel) r.granted) a.onAir
      ++ u16 a.nextEntry ++ u8 a.queue.length
      ++ listed (fun p : Entry × Nat => entryBytes p.2 p.1 (!(s.eligible p.1).isEmpty)) a.queue.zipIdx))

end Sys2Proof.Machine
end

