-- ==== Sys2Proof/Machine/Book.lean ====
section
/-! DEFINITION. The count book, the audit key, site time and the backup supply
(07_count_book_site_time_and_backup_domain.md). -/

namespace Sys2Proof.Machine

/-! ## Counting (R124, R126) -/

/-- Counts of 16 bits and of 24 bits saturate at 65,535 and 16,777,215 (R124). -/
def add16 (n k : Nat) : Nat := saturate 65535 n k
def add24 (n k : Nat) : Nat := saturate 16777215 n k

def Counts.addProgram (c : Counts) : Counts := { c with programsRun := add16 c.programsRun 1 }
def Counts.addAdmission (late : Bool) (occupants : Nat) (c : Counts) : Counts :=
  { c with
    admissions := add16 c.admissions 1
    lateAdmissions := add16 c.lateAdmissions (if late then 1 else 0)
    occupants := add24 c.occupants occupants }
def Counts.addAdmissionExpired (c : Counts) : Counts := { c with admissionsExpired := add16 c.admissionsExpired 1 }
def Counts.addBackout (c : Counts) : Counts := { c with backouts := add16 c.backouts 1 }
def Counts.addTailgate (c : Counts) : Counts := { c with tailgates := add16 c.tailgates 1 }
def Counts.addOrder (units : Nat) (c : Counts) : Counts :=
  { c with ordersTaken := add16 c.ordersTaken 1, unitsSold := add24 c.unitsSold units }
def Counts.addPicked (c : Counts) : Counts := { c with ordersPicked := add16 c.ordersPicked 1 }
def Counts.addExpired (c : Counts) : Counts := { c with ordersExpired := add16 c.ordersExpired 1 }
def Counts.addCancelled (c : Counts) : Counts := { c with ordersCancelled := add16 c.ordersCancelled 1 }

/-- The show number the book holds for a record; a record that is not FREE holds one (R123, log entry 17). -/
def State.showOf (s : State) (r : Fin 16) : Nat := s.book.records[r].show_.getD 0

/-- A count notice for this record and show is applied: the record is OPEN with that show (R100, R126). -/
def State.takesCount (s : State) (r : Fin 16) (show_ : Nat) : Bool :=
  s.book.records[r].state == .opened && s.book.records[r].show_ == some show_

/-- A count notice (R126): applied or dropped. -/
def State.count (s : State) (r : Fin 16) (show_ : Nat) (f : Counts → Counts) : State :=
  if s.takesCount r show_ then s.updRecord r fun c => { c with counts := f c.counts } else s

/-! ## Opening and closing (R125, R128, R129) -/

/-- The lowest-numbered FREE record. -/
def State.freeRecord (s : State) : Option (Fin 16) := allRecords.find? fun r => s.book.records[r].state == .free

/-- The show numbers of records that are not FREE. -/
def CountBook.shows (b : CountBook) : List Nat :=
  allRecords.filterMap fun r => if b.records[r].state == .free then none else b.records[r].show_

/-- The show number the next opening takes. -/
def CountBook.nextShow (b : CountBook) : Nat := pickNumber b.shows b.shows.length b.showCounter

/-- Open a FREE record for a screen (R125). -/
def State.openRecord (s : State) (r : Fin 16) (screen : Fin 6) : State :=
  let n := s.book.nextShow
  let t := s.updRecord r fun _ =>
    { CountRecord.freed with
      state := .opened, screen := some screen, show_ := some n, openedAt := some s.book.siteTime }
  { t with book := { t.book with showCounter := nextNumber n } }

/-- The COUNT_CLOSED report of a record that has been closed (R129; log entry 13). -/
def closedReport (r : Fin 16) (c : CountRecord) : Nat × ReportRecord :=
  ((c.screen.getD 0).val,
    .countClosed r (c.show_.getD 0) (c.openedAt.getD 0) (c.closedAt.getD 0) c.interrupted)

/-- A record closed at a site time. -/
def CountRecord.close (c : CountRecord) (time : Word) (interrupted : Bool) : CountRecord :=
  { c with state := .closed, closedAt := some time, interrupted := interrupted }

/-- Step 3 of the teardown (R21, R128): the screen's bound record closes and the binding goes. -/
def State.closeBound (s : State) (screen : Fin 6) : State :=
  match s.screens[screen].bound with
  | none => s
  | some r =>
    let t := (s.updRecord r fun c => c.close s.book.siteTime false).updScreen screen fun c => { c with bound := none }
    t.postAll [closedReport r t.book.records[r]]

/-! ## Events -/

/-- KEY_RAW_CHANGE (R131). A level the line already has is no change (log entry 21). -/
def execKeyRawChange (level : Bool) (s : State) : Host.Outcome State Fault Refusal :=
  .next (if s.key.raw = level then s
    else if s.powered then
      { s with key := { s.key with raw := level, timer := debounceTimer level s.key.office Config.keyMs } }
    else { s with key := { s.key with raw := level } })

/-- KEY_DEBOUNCE_EXPIRY (R131). -/
def execKeyDebounceExpiry (s : State) : Host.Outcome State Fault Refusal :=
  .next (s.ifPowered fun s =>
    match s.key.timer with
    | none => s
    | some _ =>
      { s with key := { s.key with office := s.key.raw, timer := none } }.post 0 (.key s.key.raw s.book.policy))

/-- SITE_TIME_ADVANCE (R134): the clock counts while either supply holds the backup domain. -/
def execSiteTimeAdvance (s : State) : Host.Outcome State Fault Refusal :=
  .next (if s.powered || s.book.valid then
    { s with book := { s.book with siteTime := s.book.siteTime + 1, secondMs := 0 } } else s)

/-- The backup domain without either supply: its contents are gone and its flag is clear (R135; log entry 6). -/
def CountBook.lost : CountBook := { CountBook.rebuilt with valid := false }

/-- Main power goes (R135): VBACKUP, where it is present, holds the backup domain as the events before left it. -/
def State.losePower (s : State) : State :=
  { s with powered := false, book := if s.vbackup then s.book else .lost }

/-- MAIN_POWER_LOSS (R135). -/
def execMainPowerLoss (s : State) : Host.Outcome State Fault Refusal := .next s.losePower

/-- BACKUP_SUPPLY_LOSS (R135): VBACKUP goes; main power, where it is present, holds the backup domain (log entry 6). -/
def execBackupSupplyLoss (s : State) : Host.Outcome State Fault Refusal :=
  .next { s with vbackup := false, book := if s.powered then s.book else .lost }

/-! ## Requests (R130, R132 to R134) -/

/-- READ_COUNT (R130). -/
def readCountEffect (record : Byte) (s : State) : State × Answer :=
  match unit? 16 record with
  | none => (s, .refused .outOfRange)
  | some r => (s, .ok (recordBytes r s.book.records[r] ++ secondCode s.key.office ++ u8 s.book.policy.code))

/-- RELEASE_COUNT (R132). -/
def releaseCountEffect (record : Byte) (s : State) : State × Answer :=
  match unit? 16 record with
  | none => (s, .refused .outOfRange)
  | some r =>
    if s.book.policy = .keyed ∧ s.key.office = false then (s, .refused .keyRequired)
    else if s.book.records[r].state = .closed then
      (s.updRecord r fun _ => .freed, .ok (recordBytes r s.book.records[r]))
    else (s, .refused .state)

/-- SET_COUNT_POLICY (R133). -/
def setCountPolicyEffect (policy : Byte) (s : State) : State × Answer :=
  match countPolicy? policy with
  | none => (s, .refused .outOfRange)
  | some p =>
    if s.key.office then ({ s with book := { s.book with policy := p } }, .ok (u8 p.code))
    else (s, .refused .keyRequired)

/-- SET_TIME (R134): the value is stored and the second restarts. -/
def setTimeEffect (time : Word) (s : State) : State × Answer :=
  ({ s with book := { s.book with siteTime := time, secondMs := 0 } }, .ok (u32 s.book.siteTime ++ u32 time))

end Sys2Proof.Machine
end

