-- ==== Sys2Proof/Machine/Kitchen.lean ====
section
/-! DEFINITION. The kitchen unit (08_menu_stock_and_kitchen_stations.md): menu, stock, stations, tickets, estimates, bumps
and withdrawal. -/

namespace Sys2Proof.Machine

/-! ## An order's lines at a station and of an item -/

def linesAt (menu : Vector Item 128) (lines : List OrderLine) (st : Fin 4) : List OrderLine :=
  lines.filter fun l => menu[l.item].station == st

/-- The stations at which an order has lines, ascending. -/
def stationsOf (menu : Vector Item 128) (lines : List OrderLine) : List (Fin 4) :=
  allStations.filter fun st => lines.any fun l => menu[l.item].station == st

/-- The summed quantities of some lines. -/
def unitsOf (lines : List OrderLine) : Nat := (lines.map (·.quantity)).sum

/-- The summed quantities of an order's lines naming an item (R142). -/
def unitsOfItem (lines : List OrderLine) (i : Fin 128) : Nat := unitsOf (lines.filter (·.item == i))

/-! ## Stock (R142, R143) -/

/-- A line whose item's stock cannot cover the order's summed quantity of it (R142). -/
def lineSoldOut (menu : Vector Item 128) (lines : List OrderLine) (l : OrderLine) : Bool :=
  match menu[l.item].stock with
  | none => false
  | some n => unitsOfItem lines l.item > n

/-- The STOCK report of a decrement, if it sends one (R143). -/
def stockReport (i : Fin 128) (it : Item) (before after order : Nat) : List (Nat × ReportRecord) :=
  if after = 0 then [(it.station.val, .stock i .soldOut after it.low order)]
  else if it.low < before ∧ after ≤ it.low then [(it.station.val, .stock i .low after it.low order)]
  else []

/-- One item's decrement with its report (R143). -/
def State.takeItem (s : State) (lines : List OrderLine) (order : Nat) (i : Fin 128) : State :=
  match s.kitchen.menu[i].stock with
  | none => s
  | some n =>
    let after := n - unitsOfItem lines i
    (s.updItem i fun it => { it with stock := some after }).postAll (stockReport i s.kitchen.menu[i] n after order)

/-- The stock of an accepted ORDER is taken, in ascending item number (R143, R157). -/
def State.takeStock (s : State) (lines : List OrderLine) (order : Nat) : State :=
  (allItems.filter fun i => lines.any (·.item == i)).foldl (fun s i => s.takeItem lines order i) s

/-! ## Tickets and estimates (R148 to R152) -/

/-- The remaining time of a head ticket (R151); the elapsed time is taken with the clock's wrap (R148). -/
def Ticket.remaining (t : Ticket) (clock : Word) : Nat :=
  match t.started with
  | some c => t.prep - (clock - c).toNat
  | none => t.prep

/-- A station's time ahead (R152). -/
def timeAhead (queue : List Ticket) (clock : Word) : Nat :=
  match queue with
  | [] => 0
  | h :: rest => h.remaining clock + (rest.map (·.prep)).sum

/-- The prep seconds of the ticket that an order makes for a station (R150). -/
def ticketPrep (menu : Vector Item 128) (lines : List OrderLine) (st : Fin 4) (perUnit : Nat) : Nat :=
  let own := linesAt menu lines st
  let largest := own.foldl (fun m l => max m menu[l.item].prep) 0
  min Config.maxSeconds (largest + (unitsOf own - 1) * perUnit)

/-- The station estimate (R152). -/
def Kitchen.stationEstimate (k : Kitchen) (lines : List OrderLine) (st : Fin 4) : Nat :=
  min Config.maxSeconds
    (timeAhead k.stations[st].queue k.clock + ticketPrep k.menu lines st k.stations[st].perUnit)

/-- The order estimate (R152). -/
def Kitchen.estimate (k : Kitchen) (lines : List OrderLine) : Nat :=
  (stationsOf k.menu lines).foldl (fun m st => max m (k.stationEstimate lines st)) 0

/-- A ticket joins the tail, and is head at once in an empty queue (R148, R149). -/
def appendTicket (queue : List Ticket) (t : Ticket) (clock : Word) : List Ticket :=
  match queue with
  | [] => [{ t with started := some clock }]
  | q => q ++ [t]

/-- The ticket at the front of a queue becomes head (R148). -/
def promote (queue : List Ticket) (clock : Word) : List Ticket :=
  match queue with
  | [] => []
  | t :: rest => { t with started := some clock } :: rest

/-- One station's ticket of an accepted ORDER (R149). -/
def State.appendTicketAt (s : State) (lines : List OrderLine) (order : Nat) (st : Fin 4) : State :=
  let k := s.kitchen
  let t : Ticket :=
    { order := order, station := st, units := unitsOf (linesAt k.menu lines st)
      prep := ticketPrep k.menu lines st k.stations[st].perUnit, started := none }
  s.updStation st fun x => { x with queue := appendTicket x.queue t k.clock }

/-- The tickets of an accepted ORDER, in ascending station number (R149). -/
def State.appendTickets (s : State) (lines : List OrderLine) (order : Nat) : State :=
  (stationsOf s.kitchen.menu lines).foldl (fun s st => s.appendTicketAt lines order st) s

/-! ## Bump and withdrawal (R153, R155) -/

/-- A bump of a station (R153). -/
def State.bump (s : State) (st : Fin 4) : State :=
  match s.kitchen.stations[st].queue with
  | [] => s
  | t :: rest =>
    (s.updStation st fun x => { x with queue := promote rest s.kitchen.clock }).hand (.ticketDone t.order st)

/-- A queue without an order's ticket; where that was head, the next becomes head (R155). -/
def withdrawTicket (queue : List Ticket) (order : Nat) (clock : Word) : List Ticket :=
  match queue with
  | [] => []
  | t :: rest =>
    if t.order = order then promote (rest.filter (·.order != order)) clock else t :: rest.filter (·.order != order)

/-- The withdrawal of an order's tickets from every queue (R155). -/
def State.withdrawTickets (s : State) (order : Nat) : State :=
  allStations.foldl
    (fun s st => s.updStation st fun x => { x with queue := withdrawTicket x.queue order s.kitchen.clock }) s

/-- The number of tickets an order has in the queues. -/
def Kitchen.ticketsOf (k : Kitchen) (order : Nat) : Nat :=
  (allStations.map fun st => k.stations[st].queue.countP (·.order == order)).sum

/-! ## Events -/

/-- A button after a change of its raw level (R147, R172). -/
def Button.rawChange (b : Button) (level powered : Bool) : Button :=
  if b.raw = level then b
  else if powered then { b with raw := level, timer := debounceTimer level b.deb Config.buttonMs }
  else { b with raw := level }

/-- A button after its debounce timer has expired (R147, R172). -/
def Button.expired (b : Button) : Button := { b with deb := b.raw, timer := none }

/-- The expiry is a debounced change from released to pressed (R147, R172). -/
def Button.presses (b : Button) : Bool := b.raw && !b.deb

/-- KITCHEN_CLOCK_ADVANCE (R148). -/
def execKitchenClockAdvance (s : State) : Host.Outcome State Fault Refusal :=
  .next (s.ifPowered fun s => { s with kitchen := { s.kitchen with clock := s.kitchen.clock + 1, clockMs := 0 } })

/-- BUMP_RAW_CHANGE (R147). -/
def execBumpRawChange (st : Fin 4) (level : Bool) (s : State) : Host.Outcome State Fault Refusal :=
  .next (s.updStation st fun x => { x with bump := x.bump.rawChange level s.powered })

/-- BUMP_DEBOUNCE_EXPIRY (R147, R153). -/
def execBumpDebounceExpiry (st : Fin 4) (s : State) : Host.Outcome State Fault Refusal :=
  .next (s.ifPowered fun s =>
    let b := s.kitchen.stations[st].bump
    match b.timer with
    | none => s
    | some _ =>
      let t := s.updStation st fun x => { x with bump := b.expired }
      if b.presses then t.bump st else t)

/-! ## Requests (R140, R144, R146) -/

/-- The items from a start index on take the records delivered (R140). -/
def writeItems (menu : Vector Item 128) (start : Nat) : List Item → Vector Item 128
  | [] => menu
  | it :: rest => writeItems (if h : start < 128 then menu.set start it else menu) (start + 1) rest

/-- LOAD_MENU (R140). -/
def loadMenuEffect (start : Byte) (items : List ItemWire) (s : State) : State × Answer :=
  if start.toNat > 127 ∨ items.length = 0 ∨ start.toNat + items.length > 128 then (s, .refused .outOfRange)
  else
    match readAll item? items with
    | none => (s, .refused .outOfRange)
    | some its =>
      ({ s with kitchen := { s.kitchen with menu := writeItems s.kitchen.menu start.toNat its } },
        .ok (u8 start.toNat ++ u8 its.length))

/-- SET_STOCK (R144). -/
def setStockEffect (item tracked : Byte) (stock low : Half) (s : State) : State × Answer :=
  match unit? 128 item with
  | none => (s, .refused .outOfRange)
  | some i =>
    if (flagOf tracked ∧ stock.toNat > Config.maxStock) ∨ low.toNat > Config.maxStock then (s, .refused .outOfRange)
    else
      let after := if flagOf tracked then some stock.toNat else none
      (s.updItem i fun it => { it with stock := after, low := low.toNat },
        .ok (u8 i.val ++ optional u16 s.kitchen.menu[i].stock ++ optional u16 after ++ u16 low.toNat))

/-- The reply fields of SET_STATION (R146). -/
def stationBytes (x : Station) (clock : Word) : List Byte :=
  flag x.opened ++ u8 x.perUnit ++ u8 x.queue.length
    ++ optional (fun t : Ticket => u16 t.order ++ u8 t.units ++ u16 t.prep ++ u16 (t.remaining clock)) x.queue.head?
    ++ u24 (timeAhead x.queue clock)

/-- SET_STATION (R146). -/
def setStationEffect (station opened : Byte) (perUnit : Half) (s : State) : State × Answer :=
  match unit? 4 station with
  | none => (s, .refused .outOfRange)
  | some st =>
    let t := s.updStation st fun x => { x with opened := flagOf opened, perUnit := min 120 perUnit.toNat }
    (t, .ok (stationBytes t.kitchen.stations[st] t.kitchen.clock))

end Sys2Proof.Machine
end

