-- ==== Sys2Proof/Machine/Orders.lean ====
section
/-! DEFINITION. The order unit (09_orders_and_pickup.md): taking, calls and recalls, ready lists, pickup, cancellation and
the release of a car's orders. -/

namespace Sys2Proof.Machine

/-! ## Reports and shared steps -/

/-- The ORDER_ENDED report of an order (R178). -/
def State.postEnded (s : State) (o : Order) (reason : OrderEnd) (left counted : Bool) : State :=
  s.post o.window.val (.orderEnded o.number o.tag o.screen reason o.calls left counted)

/-- The order leaves its window's ready list (R171). -/
def State.leaveReady (s : State) (o : Order) : State :=
  s.updOrders fun u => { u with ready := vmod u.ready o.window fun l => l.erase o.number }

/-- Step 3 of R174: the deferred item leaves and the mark is cleared, or else the waiting call is withdrawn. -/
def State.dropCall (s : State) (o : Order) : State :=
  if o.deferredMark then
    (s.updOrders fun u => { u with deferred := u.deferred.filter (·.order != o.number) }).updOrder o.number
      fun o => { o with deferredMark := false }
  else s.withdraw o.number

/-- The car's open order count decreases by 1 (R111). -/
def State.closeOrderOf (s : State) (o : Order) : State :=
  s.updCar o.tag fun c => { c with openOrders := c.openOrders - 1 }

/-- The recall timer stops. -/
def State.stopRecall (s : State) (o : Order) : State := s.updOrder o.number fun o => { o with recallTimer := none }

/-! ## Calls (R167, R168) -/

/-- The clip code of a call at this moment (R113). -/
def SiteSettings.clipOf (g : SiteSettings) : CallKind → Nat
  | .orderReady => g.orderClip
  | .recall => g.recallClip

/-- Hand the announce path an order's call (R167). -/
def State.enqueueCall (s : State) (o : Order) (k : CallKind) : Option Nat × State :=
  s.enqueue (.call k) 1 [o.screen] (s.site.clipOf k) (some o.tag) (some o.number)

/-- Place a call (R167): its entry number is stored, or the call is deferred. Returns the number that was given. -/
def State.placeCall (s : State) (o : Order) (k : CallKind) : Option Nat × State :=
  match s.enqueueCall o k with
  | (some n, t) => (some n, t.updOrder o.number fun o => { o with callEntry := some n })
  | (none, t) =>
    (none, (t.updOrder o.number fun o => { o with deferredMark := true }).updOrders fun u =>
      { u with deferred := u.deferred ++ [⟨o.number, k⟩] })

/-! ## Endings of an order -/

/-- An order is PICKED (R174). -/
def State.pickOrder (s : State) (o : Order) : State :=
  let s1 := ((s.stopRecall o).leaveReady o).dropCall o
  let counted := s1.takesCount o.record o.show_
  let s2 := (s1.count o.record o.show_ Counts.addPicked).closeOrderOf o
  (s2.postEnded o .picked true counted).removeOrder o.number

/-- A READY or CALLED order expires: its call goes, it is counted, and it leaves the table (R170, R176). -/
def State.expireOrder (s : State) (o : Order) : State :=
  let counted := s.takesCount o.record o.show_
  let s1 := (s.count o.record o.show_ Counts.addExpired).closeOrderOf o
  (s1.postEnded o .expired true counted).removeOrder o.number

/-- The release of one order of a car (R176). -/
def State.releaseOrder (s : State) (o : Order) : State :=
  match o.state with
  | .taken =>
    ((s.updOrder o.number fun o => { o with state := .orphaned }).closeOrderOf o).postEnded o .orphaned false false
  | .ready | .called => (((s.stopRecall o).leaveReady o).dropCall o).expireOrder o
  | .orphaned => s

/-- The live orders that a release touches (R176). -/
def State.ordersOf (s : State) (tag : Nat) : List Order :=
  s.orders.table.filter fun o => o.tag == tag && o.state != .orphaned

/-- A release notice (R176): the car's orders in ascending order number. -/
def State.releaseOrders (s : State) (tag : Nat) : State :=
  (s.ordersOf tag).foldl (fun s o => s.releaseOrder o) s

/-- The release of an ON_LOT car (R116). -/
def State.releaseCar (s : State) (tag : Nat) : State := (s.releaseOrders tag).removeCar tag

/-- Step 2 of the teardown (R21, R118): every car of the screen in ascending tag. -/
def State.sweep (s : State) (i : Fin 6) : State :=
  (s.cars.filter (·.screen == i)).foldl (fun s c => s.releaseCar c.tag) s

/-! ## Events -/

/-- A TAKEN order whose last ticket is done becomes READY (R166). -/
def State.makeReady (s : State) (o : Order) : State :=
  let s1 := s.updOrder o.number fun o => { o with outstanding := [], state := .ready, readyAt := some s.book.siteTime }
  let s2 := s1.updOrders fun u => { u with ready := vmod u.ready o.window fun l => l ++ [o.number] }
  match s2.placeCall o .orderReady with
  | (n, t) => t.post o.window.val (.orderReady o.number o.tag o.screen o.taken s.book.siteTime (n.getD 0))

/-- What a ticket-done notice does to the order it names (R166). -/
def State.ticketDone (s : State) (o : Order) (st : Fin 4) : State :=
  let rest := o.outstanding.filter (· != st)
  if rest.isEmpty then
    match o.state with
    | .orphaned => (s.postEnded o .orphanDone true false).removeOrder o.number
    | .taken => s.makeReady o
    | .ready | .called => s.updOrder o.number fun o => { o with outstanding := [] }
  else s.updOrder o.number fun o => { o with outstanding := rest }

/-- TICKET_DONE_NOTICE (R166). -/
def execTicketDoneNotice (number : Nat) (st : Fin 4) (s : State) : Host.Outcome State Fault Refusal :=
  .next (s.ifPowered fun s =>
    let s1 := s.takeNotice (.ticketDone number st)
    match s.findOrder number with
    | none => s1
    | some o => if o.outstanding.contains st then s1.ticketDone o st else s1)

/-- The call at the head of the deferred list is placed (R168). -/
def State.placeDeferred (s : State) : State :=
  match s.orders.deferred with
  | [] => s
  | d :: rest =>
    match s.findOrder d.order with
    | none => s
    | some o =>
      match s.enqueueCall o d.kind with
      | (none, _) => s
      | (some n, t) =>
        (t.updOrders fun u => { u with deferred := rest }).updOrder o.number
          fun o => { o with deferredMark := false, callEntry := some n }

/-- SLOT_FREE_NOTICE (R168). -/
def execSlotFreeNotice (s : State) : Host.Outcome State Fault Refusal :=
  .next (s.ifPowered fun s => (s.takeNotice .slotFree).placeDeferred)

/-- READY and CALLED, in which an order stands on its window's ready list (R162). -/
def OrderState.served : OrderState → Bool
  | .ready | .called => true
  | .taken | .orphaned => false

/-- CALL_PLAYED_NOTICE (R169). -/
def execCallPlayedNotice (number entry : Nat) (kind : CallKind) (outcome : PlayOutcome) (s : State) :
    Host.Outcome State Fault Refusal :=
  .next (s.ifPowered fun s =>
    let s1 := s.takeNotice (.callPlayed number entry kind outcome)
    match s.findOrder number with
    | none => s1
    | some o =>
      if o.state.served && o.callEntry == some entry then
        s1.updOrder number fun o =>
          { o with
            state := .called, calls := o.calls + 1
            recallTimer := .start (s.site.recallInterval * Config.second) }
      else s1)

/-- RECALL_TIMER_EXPIRY (R170). -/
def execRecallTimerExpiry (number : Nat) (s : State) : Host.Outcome State Fault Refusal :=
  .next (s.ifPowered fun s =>
    match s.findOrder number with
    | none => s
    | some o =>
      match o.state, o.recallTimer with
      | .called, some _ =>
        let s1 := s.stopRecall o
        if o.calls ≤ s.site.maxRecalls then (s1.placeCall o .recall).2
        else (s1.leaveReady o).expireOrder o
      | _, _ => s)

/-- A hand-over at a window (R172): the oldest order on its list is PICKED. -/
def State.handOver (s : State) (w : Fin 2) : State :=
  match s.orders.ready[w] with
  | [] => s
  | n :: _ =>
    match s.findOrder n with
    | none => s
    | some o => s.pickOrder o

/-- HANDED_RAW_CHANGE (R172). -/
def execHandedRawChange (w : Fin 2) (level : Bool) (s : State) : Host.Outcome State Fault Refusal :=
  .next (s.updHanded w fun b => b.rawChange level s.powered)

/-- HANDED_DEBOUNCE_EXPIRY (R172). -/
def execHandedDebounceExpiry (w : Fin 2) (s : State) : Host.Outcome State Fault Refusal :=
  .next (s.ifPowered fun s =>
    let b := s.orders.handed[w]
    match b.timer with
    | none => s
    | some _ =>
      let t := s.updHanded w fun _ => b.expired
      if b.presses then t.handOver w else t)

/-! ## ORDER (R163 to R165) -/

/-- The screen's remaining time under LAST_CALL, in seconds (R164). -/
def Screen.remainingTime (c : Screen) : Nat := c.remaining.getD 0 / Config.framesPerSecond

/-- The index of the first line that satisfies a test, if any does. -/
def firstLine (p : OrderLine → Bool) (lines : List OrderLine) : Option Nat := lines.findIdx? p

/-- The checks of R163 after the identifiers and the car, in order: the refusal of the first that fails. -/
def State.orderRefusal (s : State) (c : Car) (lines : List OrderLine) : Option Answer :=
  let k := s.kitchen
  let policy := (s.policies c.screen).order
  if c.openOrders = Config.ordersPerCar then some (.refused .carLimit)
  else if policy = .closed then some (.refused .orderingClosed)
  else
    match firstLine (fun l => !k.menu[l.item].available) lines with
    | some n => some ⟨.itemUnavailable, u8 n⟩
    | none =>
      match firstLine (fun l => !k.stations[k.menu[l.item].station].opened) lines with
      | some n => some ⟨.stationClosed, u8 n⟩
      | none =>
        match firstLine (lineSoldOut k.menu lines) lines with
        | some n => some ⟨.soldOut, u8 n⟩
        | none =>
          if s.orders.table.length ≥ Config.orderTable then some (.refused .orderTableFull)
          else
            match (stationsOf k.menu lines).find? fun st => k.stations[st].queue.length ≥ Config.stationQueue with
            | some st => some ⟨.stationFull, u8 st.val⟩
            | none =>
              if policy = .lastCall ∧ k.estimate lines > s.screens[c.screen].remainingTime then
                some ⟨.tooLate, u16 (k.estimate lines) ++ u24 s.screens[c.screen].remainingTime⟩
              else none

/-- The live order numbers (R161). -/
def OrderUnit.liveNumbers (u : OrderUnit) : List Nat := u.table.map (·.number)

/-- The number the next order takes (R161). -/
def OrderUnit.nextOrder (u : OrderUnit) : Nat := pickNumber u.liveNumbers u.liveNumbers.length u.counter

/-- The record of a new order (step 4 of R165). -/
def State.newOrder (s : State) (c : Car) (lines : List OrderLine) (number : Nat) : Order :=
  { number := number, tag := c.tag, screen := c.screen, record := c.record, show_ := s.showOf c.record
    window := s.site.window.get c.screen, state := .taken, lines := lines, units := unitsOf lines
    outstanding := stationsOf s.kitchen.menu lines, taken := s.book.siteTime, readyAt := none, calls := 0
    callEntry := none, deferredMark := false, recallTimer := none }

/-- The order is taken (R165). -/
def State.takeOrder (s : State) (c : Car) (lines : List OrderLine) : State :=
  let n := s.orders.nextOrder
  let o := s.newOrder c lines n
  let s1 := (s.takeStock lines n).appendTickets lines n
  let s2 := s1.updOrders fun u => { u with table := insertOrder o u.table, counter := nextNumber n }
  let s3 := s2.updCar c.tag fun c => { c with openOrders := c.openOrders + 1 }
  s3.count c.record o.show_ (Counts.addOrder o.units)

/-- ORDER (R163, R165). -/
def orderEffect (carTag : Half) (wires : List LineWire) (s : State) : State × Answer :=
  if carTag = 0 ∨ wires.length = 0 ∨ wires.length > Config.orderLines then (s, .refused .outOfRange)
  else
    match readAll line? wires with
    | none => (s, .refused .outOfRange)
    | some lines =>
      match s.findCar carTag.toNat with
      | none => (s, .refused .unknownCar)
      | some c =>
        if c.state = .pending then (s, .refused .notOnLot)
        else
          match s.orderRefusal c lines with
          | some a => (s, a)
          | none =>
            (s.takeOrder c lines,
              .ok (u16 s.orders.nextOrder ++ u16 (s.kitchen.estimate lines)
                ++ u8 (s.site.window.get c.screen).val ++ u8 (unitsOf lines)))

/-! ## Other requests -/

/-- PICKUP (R173). -/
def pickupEffect (number : Half) (s : State) : State × Answer :=
  if number = 0 then (s, .refused .outOfRange)
  else
    match s.findOrder number.toNat with
    | none => (s, .refused .noSuchOrder)
    | some o =>
      if o.state.served then (s.pickOrder o, .ok (u8 o.window.val ++ u16 o.tag ++ u8 o.calls))
      else (s, .refused .state)

/-- Step 1 of R175: the tickets of a TAKEN or ORPHANED order are withdrawn; the call of a READY or CALLED one goes. -/
def State.detachOrder (s : State) (o : Order) : State :=
  match o.state with
  | .taken | .orphaned => s.withdrawTickets o.number
  | .ready | .called => ((s.stopRecall o).leaveReady o).dropCall o

/-- The cancellation of a live order (R175). -/
def State.cancelOrder (s : State) (o : Order) : State :=
  let s1 := s.detachOrder o
  let counted := s1.takesCount o.record o.show_
  let s2 := s1.count o.record o.show_ Counts.addCancelled
  let s3 := if o.state = .orphaned then s2 else s2.closeOrderOf o
  (s3.postEnded o .cancelled true counted).removeOrder o.number

/-- The tickets that a cancellation withdraws (R175). -/
def State.ticketsWithdrawn (s : State) (o : Order) : Nat :=
  match o.state with
  | .taken | .orphaned => s.kitchen.ticketsOf o.number
  | .ready | .called => 0

/-- CANCEL_ORDER (R175). -/
def cancelOrderEffect (number : Half) (s : State) : State × Answer :=
  if number = 0 then (s, .refused .outOfRange)
  else
    match s.findOrder number.toNat with
    | none => (s, .refused .noSuchOrder)
    | some o => (s.cancelOrder o, .ok (u8 o.state.code ++ u8 (s.ticketsWithdrawn o)))

/-- The fields of an order in the reply of GET_ORDER by number (R179). The model's choices (log entry 36): a stopped recall
timer is a presence byte 0 with no seconds, and two optional bytes give the order's place on its ready list and then its
place on the deferred list, since an order with the deferred mark stands on both. The model's choice (log entry 39): Station n
of the stations outstanding is the bit of weight 2 to the power n. -/
def orderBytes (u : OrderUnit) (o : Order) : List Byte :=
  u16 o.number ++ u16 o.tag ++ u8 o.screen.val ++ u8 o.record.val ++ u16 o.show_ ++ u8 o.window.val ++ u8 o.state.code
    ++ listed (fun l : OrderLine => u8 l.item.val ++ u8 l.quantity) o.lines ++ u8 o.units ++ unitSet o.outstanding
    ++ u32 o.taken ++ optional u32 o.readyAt ++ u8 o.calls ++ optional u16 o.callEntry ++ flag o.deferredMark
    ++ optional (fun ms => u16 (secondsUp ms)) o.recallTimer
    ++ optional u8 (u.ready[o.window].findIdx? (· == o.number))
    ++ optional u8 (u.deferred.findIdx? (·.order == o.number))

/-- GET_ORDER (R179). -/
def getOrderEffect (number carTag : Half) (s : State) : State × Answer :=
  if (number = 0) ↔ (carTag = 0) then (s, .refused .outOfRange)
  else if number ≠ 0 then
    match s.findOrder number.toNat with
    | none => (s, .refused .noSuchOrder)
    | some o => (s, .ok (orderBytes s.orders o))
  else
    let own := s.orders.table.filter (·.tag == carTag.toNat)
    (s, .ok
      (listed (fun o : Order => u16 o.number ++ u8 o.state.code ++ u8 o.window.val ++ u8 o.calls)
          (own.filter (·.state != .orphaned))
        ++ u8 (own.countP (·.state == .orphaned))))

end Sys2Proof.Machine
end

