-- ==== Sys2Proof/Machine/Cars.lean ====
section
/-! DEFINITION. The car table's requests (06_the_car_table_and_lot_capacity.md): SET_SITE, CHECKOUT and GET_CAR. -/

namespace Sys2Proof.Machine

/-! ## SET_SITE (R112 to R114) -/

/-- A lot capacity as stored (R113). -/
def capacityOf (h : Half) : Nat := min Config.maxCapacity h.toNat

/-- Six values changed alike. -/
def mapSix {α β : Type} (f : α → β) (v : Six α) : Six β := ⟨f v.s0, f v.s1, f v.s2, f v.s3, f v.s4, f v.s5⟩

/-- Six windows, if each byte names one. -/
def windows? (v : Six Byte) : Option (Six (Fin 2)) :=
  match unit? 2 v.s0, unit? 2 v.s1, unit? 2 v.s2, unit? 2 v.s3, unit? 2 v.s4, unit? 2 v.s5 with
  | some a, some b, some c, some d, some e, some f => some ⟨a, b, c, d, e, f⟩
  | _, _, _, _, _, _ => none

/-- A clip code is in range (R112). -/
def clipOk (h : Half) : Bool := 1 ≤ h.toNat && h.toNat ≤ 255

/-- The settings that an accepted SET_SITE stores (R113). -/
def settingsOf (w : SiteWire) (windows : Six (Fin 2)) : SiteSettings :=
  { spacing := clamp 0 60 w.spacing.toNat
    capacity := mapSix capacityOf w.capacity
    window := windows
    orderClip := w.orderClip.toNat
    recallClip := w.recallClip.toNat
    recallInterval := clamp 30 900 w.recallInterval.toNat
    maxRecalls := clamp 0 5 w.maxRecalls.toNat }

/-- The six car counts in screen order (R114). -/
def State.carCountBytes (s : State) : List Byte := allScreens.flatMap fun i => u16 (s.carCount i)

/-- The site settings of a reply, in the order of R112. -/
def siteBytes (g : SiteSettings) : List Byte :=
  u8 g.spacing ++ allScreens.flatMap (fun i => u16 (g.capacity.get i))
    ++ allScreens.flatMap (fun i => u8 (g.window.get i).val)
    ++ u8 g.orderClip ++ u8 g.recallClip ++ u16 g.recallInterval ++ u8 g.maxRecalls

/-- SET_SITE (R112 to R114). -/
def setSiteEffect (w : SiteWire) (s : State) : State × Answer :=
  match windows? w.window with
  | none => (s, ⟨.outOfRange, s.carCountBytes⟩)
  | some ws =>
    let g := settingsOf w ws
    if !clipOk w.orderClip || !clipOk w.recallClip then (s, ⟨.outOfRange, s.carCountBytes⟩)
    else if g.capacity.toList.sum > Config.carTable then (s, ⟨.outOfRange, s.carCountBytes⟩)
    else if allScreens.any fun i => g.capacity.get i < s.carCount i then (s, ⟨.capacityInUse, s.carCountBytes⟩)
    else ({ s with site := g }, .ok (siteBytes g ++ s.carCountBytes))

/-! ## CHECKOUT and GET_CAR (R115, R120) -/

/-- The orders of a car that its release makes ORPHANED (R115, R176). -/
def State.orphansOf (s : State) (tag : Nat) : Nat := (s.ordersOf tag).countP (·.state == .taken)

/-- The orders of a car that its release makes EXPIRED (R115, R176). -/
def State.expiriesOf (s : State) (tag : Nat) : Nat := (s.ordersOf tag).countP (·.state.served)

/-- CHECKOUT (R115). An ON_LOT car has an admitted time (R107; log entries 13 and 17). -/
def checkoutEffect (carTag : Half) (s : State) : State × Answer :=
  if carTag = 0 then (s, .refused .outOfRange)
  else
    match s.findCar carTag.toNat with
    | none => (s, .refused .unknownCar)
    | some c =>
      if c.state = .pending then (s, .refused .notOnLot)
      else
        (s.releaseCar c.tag,
          .ok (u8 c.screen.val ++ u8 c.record.val ++ u32 (c.admitted.getD 0) ++ u8 (s.orphansOf c.tag)
            ++ u8 (s.expiriesOf c.tag)))

/-- The reply fields of GET_CAR (R120). -/
def State.carBytes (s : State) (c : Car) : List Byte :=
  u16 c.tag ++ u8 c.screen.val ++ u8 c.record.val ++ u8 c.lane.val ++ u8 c.occupants ++ u8 c.state.code ++ flag c.late
    ++ optional positionBytes c.capture ++ optional u32 c.admitted ++ u8 c.openOrders
    ++ optional (fun ms => u16 (secondsUp ms)) (if c.state = .pending then s.lanes[c.lane].admTimer else none)

/-- GET_CAR (R120). -/
def getCarEffect (carTag : Half) (s : State) : State × Answer :=
  if carTag = 0 then (s, .refused .outOfRange)
  else
    match s.findCar carTag.toNat with
    | none => (s, .refused .unknownCar)
    | some c => (s, .ok (s.carBytes c))

end Sys2Proof.Machine
end

