-- ==== Sys2Proof/Machine/Cues.lean ====
section
/-! DEFINITION. The cue unit (02_cues_and_cue_lines.md): LOAD_CUES, the cue check, firing, line actions and pulse timers. -/

namespace Sys2Proof.Machine

/-- The cue check (R28): every entry lies inside the program. -/
def cueCheck (table : List CueEntry) (program : List Segment) : Bool :=
  table.all fun e =>
    match program[e.segment]? with
    | some g => e.offset < g.length
    | none => false

/-- A line's level and pulse timer set. -/
def CueUnit.setLine (u : CueUnit) (line : Fin 4) (level : Bool) (timer : Timer) : CueUnit :=
  { u with levels := vmod u.levels line fun _ => level, timers := vmod u.timers line fun _ => timer }

/-- The CUE report of an entry whose report flag is set (R36). -/
def State.reportCue (s : State) (i : Fin 6) (index : Nat) (e : CueEntry) (level : Bool) (entry : Nat) : State :=
  if e.report then s.post i.val (.cue index ⟨e.segment, e.offset⟩ e.action level entry) else s

/-- A line action (R32, R33). -/
def CueUnit.act (u : CueUnit) : CueAction → CueUnit
  | .pulse l => u.setLine l true (.start Config.pulseMs)
  | .set l => u.setLine l true none
  | .clear l => u.setLine l false none
  | .toggle l => u.setLine l (!u.levels[l]) none
  | .announce _ _ => u

/-- The level of the line of a line action. -/
def CueUnit.levelOf (u : CueUnit) (a : CueAction) : Bool :=
  match a.line with
  | some l => u.levels[l]
  | none => false

/-- An entry fires (R29, R32, R33, R35): its action, then its CUE report. -/
def State.fire (s : State) (i : Fin 6) (index : Nat) (e : CueEntry) : State :=
  match e.action with
  | .announce clip priority =>
    match s.enqueue .showNotice priority [i] clip none none with
    | (some n, t) => t.reportCue i index e false n
    | (none, _) =>
      (s.post i.val (.dropped index clip priority ⟨e.segment, e.offset⟩)).reportCue i index e false 0
  | a =>
    let t := s.updCue i fun u => u.act a
    t.reportCue i index e (t.cues[i].levelOf a) 0

/-- The entries at a position fire in table order (R29, R30). -/
def State.fireAt (s : State) (i : Fin 6) (p : Position) : State :=
  (s.cues[i].table.zipIdx.filter fun x => x.1.segment == p.segment && x.1.offset == p.frame).foldl
    (fun s x => s.fire i x.2 x.1) s

/-- Step 4 of the teardown (R21, R37): the screen's lines low and its pulse timers stopped. -/
def State.clearLines (s : State) (i : Fin 6) : State :=
  s.updCue i fun u => { u with levels := Vector.replicate 4 false, timers := Vector.replicate 4 none }

/-- PULSE_TIMER_EXPIRY (R33). -/
def execPulseTimerExpiry (i : Fin 6) (line : Fin 4) (s : State) : Host.Outcome State Fault Refusal :=
  .next (s.ifPowered fun s =>
    match s.cues[i].timers[line] with
    | none => s
    | some _ => s.updCue i fun u => u.setLine line false none)

/-- LOAD_CUES (R27). -/
def loadCuesEffect (screen : Byte) (entries : List CueWire) (s : State) : State × Answer :=
  match unit? 6 screen with
  | none => (s, .refused .outOfRange)
  | some i =>
    if s.screens[i].active then (s, .refused .screenActive)
    else if entries.length > Config.cueEntries then (s, .refused .outOfRange)
    else
      match readAll cue? entries with
      | none => (s, .refused .outOfRange)
      | some table => (s.updCue i fun u => { u with table := table }, .ok (u8 table.length))

end Sys2Proof.Machine
end

