-- ==== Sys2Proof/Machine/Lanes.lean ====
section
/-! DEFINITION. The lane unit (05_gate_lanes.md): loop debounce, the passage tracker, admissions and their endings, and
the lane requests. -/

namespace Sys2Proof.Machine

/-! ## Endings of a pending admission (R93) -/

/-- The lane after its pending admission has ended: timer stopped, nothing pending, barrier down. -/
def Lane.ended (l : Lane) : Lane := { l with admTimer := none, pending := none, barrierUp := false }

/-- A pending admission ends unused (R96, R97, R98): its car record goes and ADMISSION_ENDED is queued. -/
def State.endAdmission (s : State) (i : Fin 8) (p : Admission) (reason : AdmissionEnd) : State :=
  ((s.removeCar p.tag).updLane i Lane.ended).post i.val (.admissionEnded p.tag p.screen p.record reason)

/-- Step 1 of the teardown at one lane (R98). -/
def State.teardownLane (s : State) (screen : Fin 6) (i : Fin 8) : State :=
  match s.lanes[i].pending with
  | some p => if p.screen = screen then s.endAdmission i p .teardown else s
  | none => s

/-- Step 1 of the teardown (R98): the lanes from Lane 0 upward. -/
def State.cancelAdmissions (s : State) (screen : Fin 6) : State :=
  allLanes.foldl (fun s i => s.teardownLane screen i) s

/-! ## Passages (R86, R87, R90) -/

inductive Passage where
  | forward
  | reverse
  deriving DecidableEq, Repr

/-- The direction and the passage after a debounced change (R86, R87): `a`, `b` before it, `a'`, `b'` after it. -/
def track (a b a' b' : Bool) (d : Direction) : Direction × Option Passage :=
  if a' && b' then
    match d, a, b with
    | .none, true, false => (.fwd, none)
    | .none, false, true => (.rev, none)
    | _, _, _ => (d, none)
  else if !a' && !b' then
    match a, b, d with
    | false, true, .fwd => (.none, some .forward)
    | true, false, .rev => (.none, some .reverse)
    | _, _, _ => (.none, none)
  else (d, none)

/-- The capture at completion (R95): the position of a RUNNING or HOLDING screen. -/
def State.captureOf (s : State) (screen : Fin 6) : Option Position :=
  if s.screens[screen].active then s.screens[screen].position else none

/-- The late mark at completion (R95). -/
def State.lateOf (s : State) (screen : Fin 6) : Bool :=
  match (s.policies screen).gate with
  | .admitAll => false
  | .admitLate | .closed => true

/-- The completion of an admission (R94). -/
def State.complete (s : State) (i : Fin 8) (p : Admission) : State :=
  match s.findCar p.tag with
  | none => s.updLane i Lane.ended
  | some c =>
    let late := s.lateOf c.screen
    let capture := s.captureOf c.screen
    let n := s.showOf c.record
    let s1 := s.updCar p.tag fun c =>
      { c with state := .onLot, admitted := some s.book.siteTime, capture := capture, late := late }
    let s2 := s1.count c.record n (Counts.addAdmission late c.occupants)
    let s3 := s2.updLane i fun l => { l.ended with attribution := some ⟨c.screen, c.record, n⟩ }
    s3.post i.val (.admitted c.tag c.screen c.record c.occupants late capture)

/-- A tailgate or backout is counted against the lane's attribution (R100). -/
def State.attributed (s : State) (a : Option Attribution) : Bool :=
  match a with
  | some a => s.takesCount a.record a.show_
  | none => false

/-- The attributed record takes a count, where R100 counts it. -/
def State.countAttributed (s : State) (a : Option Attribution) (f : Counts → Counts) : State :=
  match a with
  | some a => s.count a.record a.show_ f
  | none => s

/-- TAILGATE (R101). -/
def State.tailgate (s : State) (i : Fin 8) : State :=
  let a := s.lanes[i].attribution
  (s.countAttributed a Counts.addTailgate).post i.val (.tailgate a (s.attributed a))

/-- BACKOUT (R102). -/
def State.backout (s : State) (i : Fin 8) : State :=
  let a := s.lanes[i].attribution
  (s.countAttributed a Counts.addBackout).post i.val (.backout a (s.attributed a) (s.lanes[i].pending.map (·.tag)))

/-- What a completed passage does (R90, R91). -/
def State.passage (s : State) (i : Fin 8) (p : Passage) : State :=
  match s.lanes[i].mode, p with
  | .entry, .forward =>
    match s.lanes[i].pending with
    | some a => s.complete i a
    | none => s.tailgate i
  | .entry, .reverse => s.backout i
  | .exit, .forward => s.post i.val .exit
  | .exit, .reverse => s.post i.val .wrongWay
  | .disabled, _ => s

/-! ## Loops (R84) -/

/-- A lane after a change of a loop's raw level (R84). -/
def Lane.rawChange (l : Lane) (loop : Loop) (level powered : Bool) : Lane :=
  match loop with
  | .a =>
    if l.rawA = level then l
    else if powered then { l with rawA := level, timerA := debounceTimer level l.debA l.debounce }
    else { l with rawA := level }
  | .b =>
    if l.rawB = level then l
    else if powered then { l with rawB := level, timerB := debounceTimer level l.debB l.debounce }
    else { l with rawB := level }

/-- LOOP_RAW_CHANGE (R84). -/
def execLoopRawChange (i : Fin 8) (loop : Loop) (level : Bool) (s : State) : Host.Outcome State Fault Refusal :=
  .next (s.updLane i fun l => l.rawChange loop level s.powered)

/-- The timer of a loop. -/
def Lane.timer (l : Lane) : Loop → Timer
  | .a => l.timerA
  | .b => l.timerB

/-- The lane with a loop's debounced state at its raw level and its timer stopped (R84). -/
def Lane.debounced (l : Lane) : Loop → Lane
  | .a => { l with debA := l.rawA, timerA := none }
  | .b => { l with debB := l.rawB, timerB := none }

/-- A debounced change of a loop (R83, R84): taken by the tracker in ENTRY and EXIT. -/
def State.loopExpiry (s : State) (i : Fin 8) (loop : Loop) : State :=
  let l := s.lanes[i]
  let l' := l.debounced loop
  if l.mode = .disabled then s.updLane i fun _ => l'
  else
    match track l.debA l.debB l'.debA l'.debB l.direction with
    | (d, none) => s.updLane i fun _ => { l' with direction := d }
    | (d, some p) => (s.updLane i fun _ => { l' with direction := d }).passage i p

/-- LOOP_DEBOUNCE_EXPIRY (R84). -/
def execLoopDebounceExpiry (i : Fin 8) (loop : Loop) (s : State) : Host.Outcome State Fault Refusal :=
  .next (s.ifPowered fun s =>
    match s.lanes[i].timer loop with
    | none => s
    | some _ => s.loopExpiry i loop)

/-- The expiry of a pending admission (R96). -/
def State.expireAdmission (s : State) (i : Fin 8) (p : Admission) : State :=
  (s.count p.record (s.showOf p.record) Counts.addAdmissionExpired).endAdmission i p .expired

/-- ADMISSION_TIMER_EXPIRY (R96). -/
def execAdmissionTimerExpiry (i : Fin 8) (s : State) : Host.Outcome State Fault Refusal :=
  .next (s.ifPowered fun s =>
    match s.lanes[i].admTimer, s.lanes[i].pending with
    | some _, some p => s.expireAdmission i p
    | _, _ => s)

/-! ## Requests (R92, R97, R103, R104) -/

/-- The car record of an accepted ADMIT (step 1 of R92). -/
def newCar (i : Fin 8) (tag : Nat) (screen : Fin 6) (record : Fin 16) (occupants : Nat) : Car :=
  { tag := tag, screen := screen, record := record, state := .pending, lane := i, occupants := occupants
    late := false, capture := none, admitted := none, openOrders := 0 }

/-- The steps of an accepted ADMIT (R92). -/
def State.acceptAdmit (s : State) (i : Fin 8) (tag : Nat) (screen : Fin 6) (record : Fin 16) (occupants : Nat) : State :=
  { s with cars := insertCar (newCar i tag screen record occupants) s.cars }.updLane i fun l =>
    { l with
      pending := some ⟨tag, screen, record⟩, barrierUp := true, admTimer := .start (l.timeout * Config.second) }

/-- ADMIT (R92). A screen that accepts cars is bound to a record (R15; log entry 17). -/
def admitCarEffect (lane : Byte) (carTag : Half) (screen occupants : Byte) (s : State) : State × Answer :=
  match unit? 8 lane, unit? 6 screen with
  | some i, some c =>
    if carTag = 0 ∨ occupants.toNat = 0 ∨ occupants.toNat > 15 then (s, .refused .outOfRange)
    else if s.lanes[i].mode ≠ .entry then (s, .refused .wrongLaneMode)
    else if s.lanes[i].pending.isSome then (s, .refused .laneBusy)
    else if (s.policies c).gate = .closed then (s, .refused .gateClosed)
    else if (s.findCar carTag.toNat).isSome then (s, .refused .duplicateTag)
    else if s.carCount c ≥ s.site.capacity.get c then (s, .refused .lotFull)
    else
      let r := s.screens[c].bound.getD 0
      (s.acceptAdmit i carTag.toNat c r occupants.toNat, .ok (u8 r.val))
  | _, _ => (s, .refused .outOfRange)

/-- CANCEL_ADMIT (R97). -/
def cancelAdmitEffect (lane : Byte) (s : State) : State × Answer :=
  match unit? 8 lane with
  | none => (s, .refused .outOfRange)
  | some i =>
    match s.lanes[i].pending with
    | none => (s, .refused .noSuchEntry)
    | some p => (s.endAdmission i p .cancelled, .ok (u16 p.tag))

/-- A lane with new settings (R103); a change of mode reloads the tracker (R88). -/
def Lane.withSettings (l : Lane) (mode : LaneMode) (debounce timeout : Nat) : Lane :=
  { l with
    mode := mode
    debounce := clamp 50 1000 debounce
    timeout := clamp 10 300 timeout
    direction := if mode = l.mode then l.direction else .none }

/-- SET_LANE (R103). -/
def setLaneEffect (lane mode : Byte) (debounce timeout : Half) (s : State) : State × Answer :=
  match unit? 8 lane, laneMode? mode with
  | some i, some m =>
    if s.lanes[i].pending.isSome ∧ m ≠ s.lanes[i].mode then (s, .refused .laneBusy)
    else
      let l := s.lanes[i].withSettings m debounce.toNat timeout.toNat
      (s.updLane i fun _ => l, .ok (u8 l.mode.code ++ u16 l.debounce ++ u16 l.timeout))
  | _, _ => (s, .refused .outOfRange)

/-- The reply fields of GET_LANE (R104). -/
def laneBytes (l : Lane) : List Byte :=
  u8 l.mode.code ++ u16 l.debounce ++ u16 l.timeout ++ loopCode l.rawA ++ loopCode l.rawB ++ loopCode l.debA
    ++ loopCode l.debB ++ u8 l.direction.code
    ++ optional (fun p : Admission =>
        u16 p.tag ++ u8 p.screen.val ++ u8 p.record.val ++ u16 (secondsUp (l.admTimer.getD 0))) l.pending
    ++ secondCode l.barrierUp ++ optional attributionBytes l.attribution

/-- GET_LANE (R104). -/
def getLaneEffect (lane : Byte) (s : State) : State × Answer :=
  match unit? 8 lane with
  | none => (s, .refused .outOfRange)
  | some i => (s, .ok (laneBytes s.lanes[i]))

end Sys2Proof.Machine
end

