-- ==== Sys2Proof/Machine/Screens.lean ====
section
/-! DEFINITION. The screen sequencer (01_screens_and_show_programs.md): programs, frame counting, the strike arbiter, the
screen requests and the teardown cascade. -/

namespace Sys2Proof.Machine

/-! ## Reports (R23) -/

/-- The SCREEN_STATE report of a change from `left` to the screen's present state. -/
def State.postState (s : State) (i : Fin 6) (left : ScreenState) (reason : StateReason) : State :=
  let c := s.screens[i]
  s.post i.val (.screenState left c.state reason (if c.state = .holding then c.holdReason else .none) c.bound)

/-! ## Entering states (R7, R9, R18, R22) -/

/-- Entry to RUNNING (R10, R16, R18): hold reason NONE and the frame-loss timer started. -/
def Screen.toRunning (c : Screen) : Screen :=
  { c with state := .running, holdReason := .none, frameLossTimer := .start Config.frameLossMs }

/-- Entry to HOLDING with a reason (R7, R10, R17): the frame-loss timer stops. -/
def Screen.toHolding (c : Screen) (why : HoldReason) : Screen :=
  { c with state := .holding, holdReason := why, frameLossTimer := none }

/-- Program end without auto-close (R9). -/
def Screen.toReady (c : Screen) : Screen :=
  { c with state := .ready, holdReason := .none, position := none, frameLossTimer := none }

/-- Entry to CLOSING (R22) before its teardown. -/
def Screen.toClosing (c : Screen) : Screen :=
  { c with
    state := .closing, holdReason := .none, position := none, strikeTimer := none, frameLossTimer := none
    cooldownTimer := .start (c.cooldown * Config.second) }

/-- STOP from STRIKE_WAIT (R20) before its teardown. -/
def Screen.toDark (c : Screen) : Screen := { c with state := .dark, holdReason := .none, position := none }

/-- The teardown cascade (R21): admissions, cars, count record, cue lines. -/
def State.teardown (s : State) (i : Fin 6) : State := (((s.cancelAdmissions i).sweep i).closeBound i).clearLines i

/-- Entry to CLOSING with its teardown and report (R22). -/
def State.enterClosing (s : State) (i : Fin 6) (reason : StateReason) : State :=
  ((s.updScreen i Screen.toClosing).teardown i).postState i s.screens[i].state reason

/-- The screen is held with a reason (R7, R10, R17). -/
def State.holdScreen (s : State) (i : Fin 6) (why : HoldReason) (reason : StateReason) : State :=
  (s.updScreen i (·.toHolding why)).postState i s.screens[i].state reason

/-- The screen goes to RUNNING with a report (R16, R18, R19). -/
def State.runScreen (s : State) (i : Fin 6) (reason : StateReason) : State :=
  (s.updScreen i Screen.toRunning).postState i s.screens[i].state reason

/-! ## Segments (R7 to R9) -/

/-- A segment starts (R8): its offset-0 cues fire and a SEGMENT report follows (R30). -/
def State.startSegment (s : State) (i : Fin 6) (index : Nat) : State :=
  let s1 := (s.updScreen i fun c => { c with position := some ⟨index, 0⟩ }).fireAt i ⟨index, 0⟩
  match s.screens[i].segments[index]? with
  | some g => s1.post i.val (.segment index g)
  | none => s1

/-- The program ends (R9). -/
def State.endProgram (s : State) (i : Fin 6) : State :=
  if s.screens[i].autoClose then s.enterClosing i .programEnd
  else (s.updScreen i Screen.toReady).postState i s.screens[i].state .programEnd

/-- The next segment, or the program end after the last (R7, R18, R19). -/
def State.hasNext (s : State) (i : Fin 6) (index : Nat) : Bool := index + 1 < s.screens[i].segments.length

/-- A segment has ended (R7). -/
def State.endSegment (s : State) (i : Fin 6) (index : Nat) (holdAtEnd : Bool) : State :=
  if holdAtEnd then s.holdScreen i .segmentHold .segmentHold
  else if s.hasNext i index then s.startSegment i (index + 1)
  else s.endProgram i

/-- A FRAME pulse of a RUNNING screen at a position is counted (R6). -/
def State.countFrame (s : State) (i : Fin 6) (p : Position) : State :=
  let q : Position := ⟨p.segment, p.frame + 1⟩
  let s1 := (s.updScreen i fun c =>
    { c with position := some q, frameLossTimer := .start Config.frameLossMs }).fireAt i q
  match s.screens[i].segments[p.segment]? with
  | some g => if q.frame = g.length then s1.endSegment i p.segment g.holdAtEnd else s1
  | none => s1

/-! ## The strike arbiter (R13) -/

/-- The head of the strike queue is granted. -/
def State.grantStrike (s : State) (i : Fin 6) (rest : List (Fin 6)) : State :=
  let s1 := { s with
    strikeQueue := rest
    spacing := if s.site.spacing > 0 then .start (s.site.spacing * Config.second) else s.spacing }
  (s1.updScreen i fun c =>
    { c with state := .striking, strikeTimer := .start (c.strikeTime * Config.second) }).postState i s.screens[i].state .grant

/-- No screen is STRIKING and no spacing interval runs. -/
def State.supplyFree (s : State) : Bool :=
  s.spacing.isNone && allScreens.all fun i => s.screens[i].state != .striking

/-- The arbiter examines the queue (R13). -/
def State.examine (s : State) : State :=
  match s.strikeQueue with
  | [] => s
  | i :: rest => if s.supplyFree then s.grantStrike i rest else s

/-! ## Events -/

/-- FRAME_PULSE (R6). -/
def execFramePulse (i : Fin 6) (s : State) : Host.Outcome State Fault Refusal :=
  .next (s.ifPowered fun s =>
    match s.screens[i].state, s.screens[i].position with
    | .running, some p => s.withPolicyNotice i fun s => s.countFrame i p
    | _, _ => s)

/-- FRAME_LOSS_EXPIRY (R10). -/
def execFrameLossExpiry (i : Fin 6) (s : State) : Host.Outcome State Fault Refusal :=
  .next (s.ifPowered fun s =>
    match s.screens[i].state, s.screens[i].frameLossTimer with
    | .running, some _ => s.withPolicyNotice i fun s => s.holdScreen i .pictureLost .pictureLost
    | _, _ => s)

/-- STRIKE_TIMER_EXPIRY (R14). -/
def execStrikeTimerExpiry (i : Fin 6) (s : State) : Host.Outcome State Fault Refusal :=
  .next (s.ifPowered fun s =>
    match s.screens[i].state, s.screens[i].strikeTimer with
    | .striking, some _ =>
      (s.withPolicyNotice i fun s =>
        (s.updScreen i fun c => { c with state := .ready, strikeTimer := none }).postState i .striking .struck).examine
    | _, _ => s)

/-- SPACING_INTERVAL_EXPIRY (R13). -/
def execSpacingIntervalExpiry (s : State) : Host.Outcome State Fault Refusal :=
  .next (s.ifPowered fun s =>
    match s.spacing with
    | none => s
    | some _ => { s with spacing := none }.examine)

/-- COOLDOWN_TIMER_EXPIRY (R22). -/
def execCooldownTimerExpiry (i : Fin 6) (s : State) : Host.Outcome State Fault Refusal :=
  .next (s.ifPowered fun s =>
    match s.screens[i].state, s.screens[i].cooldownTimer with
    | .closing, some _ =>
      s.withPolicyNotice i fun s =>
        (s.updScreen i fun c => { c with state := .dark, cooldownTimer := none }).postState i .closing .cooled
    | _, _ => s)

/-! ## Requests -/

/-- LOAD_PROGRAM (R5). -/
def loadProgramEffect (screen : Byte) (strikeTime cooldown : Half) (wires : List SegmentWire) (s : State) :
    State × Answer :=
  match unit? 6 screen with
  | none => (s, .refused .outOfRange)
  | some i =>
    if s.screens[i].active then (s, .refused .screenActive)
    else if wires.length = 0 ∨ wires.length > Config.segments then (s, .refused .outOfRange)
    else
      match readAll segment? wires with
      | none => (s, .refused .outOfRange)
      | some program =>
        let st := clamp 5 255 strikeTime.toNat
        let cd := clamp 10 600 cooldown.toNat
        (s.updScreen i fun c => { c with program := some program, strikeTime := st, cooldown := cd }, .ok (u8 st ++ u16 cd))

/-- The steps of an accepted STRIKE (R12), a record being FREE. -/
def State.acceptStrike (s : State) (i : Fin 6) (r : Fin 16) : State :=
  (s.withPolicyNotice i fun s =>
    let s1 := (s.openRecord r i).updScreen i fun c => { c with state := .strikeWait, bound := some r }
    { s1.postState i .dark .strike with strikeQueue := s.strikeQueue ++ [i] }).examine

/-- STRIKE (R12). -/
def strikeEffect (screen : Byte) (s : State) : State × Answer :=
  match unit? 6 screen with
  | none => (s, .refused .outOfRange)
  | some i =>
    match s.screens[i].state with
    | .closing => (s, .refused .cooling)
    | .strikeWait | .striking | .ready | .running | .holding => (s, .refused .state)
    | .dark =>
      match s.freeRecord with
      | none => (s, .refused .countBookFull)
      | some r => (s.acceptStrike i r, .ok (u8 r.val ++ u16 s.book.nextShow))

/-- The bound record takes an accepted GO (R15, R126). -/
def State.countProgram (s : State) (i : Fin 6) : State :=
  match s.screens[i].bound with
  | some r => s.count r (s.showOf r) Counts.addProgram
  | none => s

/-- The steps of an accepted GO (R16). -/
def State.acceptGo (s : State) (i : Fin 6) (start : Nat) (autoClose : Bool) : State :=
  s.withPolicyNotice i fun s =>
    (((s.updScreen i fun c => { c with autoClose := autoClose }).runScreen i .go).countProgram i).startSegment i start

/-- GO (R16). -/
def goEffect (screen start autoClose : Byte) (s : State) : State × Answer :=
  match unit? 6 screen with
  | none => (s, .refused .outOfRange)
  | some i =>
    if start.toNat > 31 then (s, .refused .outOfRange)
    else if s.screens[i].state ≠ .ready then (s, .refused .state)
    else
      match s.screens[i].program with
      | none => (s, .refused .noProgram)
      | some program =>
        if start.toNat ≥ program.length then (s, .refused .outOfRange)
        else if !cueCheck s.cues[i].table program then (s, .refused .cueRange)
        else (s.acceptGo i start.toNat (flagOf autoClose), .ok [])

/-- HOLD (R17). -/
def holdEffect (screen : Byte) (s : State) : State × Answer :=
  match unit? 6 screen with
  | none => (s, .refused .outOfRange)
  | some i =>
    match s.screens[i].state with
    | .running => (s.withPolicyNotice i fun s => s.holdScreen i .operator .operator, .ok [])
    | .holding => (s, .ok [])
    | .dark | .strikeWait | .striking | .ready | .closing => (s, .refused .state)

/-- A screen moves past the segment it is in, from HOLDING (R18, R19). -/
def State.moveOn (s : State) (i : Fin 6) (p : Position) (reason : StateReason) : State :=
  if s.hasNext i p.segment then (s.runScreen i reason).startSegment i (p.segment + 1) else s.endProgram i

/-- RESUME of a HOLDING screen at a position (R18). -/
def State.resumeScreen (s : State) (i : Fin 6) (p : Position) : State :=
  s.withPolicyNotice i fun s =>
    if s.screens[i].holdReason = .segmentHold then s.moveOn i p .resume else s.runScreen i .resume

/-- RESUME (R18). -/
def resumeEffect (screen : Byte) (s : State) : State × Answer :=
  match unit? 6 screen with
  | none => (s, .refused .outOfRange)
  | some i =>
    match s.screens[i].state, s.screens[i].position with
    | .holding, some p => (s.resumeScreen i p, .ok [])
    | _, _ => (s, .refused .state)

/-- SKIP of a RUNNING screen at a position (R19). -/
def State.skipRunning (s : State) (i : Fin 6) (p : Position) : State :=
  s.withPolicyNotice i fun s =>
    if s.hasNext i p.segment then
      (s.updScreen i fun c => { c with frameLossTimer := .start Config.frameLossMs }).startSegment i (p.segment + 1)
    else s.endProgram i

/-- SKIP (R19). -/
def skipEffect (screen : Byte) (s : State) : State × Answer :=
  match unit? 6 screen with
  | none => (s, .refused .outOfRange)
  | some i =>
    match s.screens[i].state, s.screens[i].position with
    | .running, some p => (s.skipRunning i p, .ok [])
    | .holding, some p => (s.withPolicyNotice i fun s => s.moveOn i p .skip, .ok [])
    | _, _ => (s, .refused .state)

/-- STOP from STRIKE_WAIT (R20). -/
def State.stopWaiting (s : State) (i : Fin 6) : State :=
  s.withPolicyNotice i fun s =>
    let s1 := { s with strikeQueue := s.strikeQueue.erase i }
    ((s1.updScreen i Screen.toDark).teardown i).postState i .strikeWait .stop

/-- STOP (R20). -/
def stopEffect (screen : Byte) (s : State) : State × Answer :=
  match unit? 6 screen with
  | none => (s, .refused .outOfRange)
  | some i =>
    match s.screens[i].state with
    | .strikeWait => (s.stopWaiting i, .ok [])
    | .striking => ((s.withPolicyNotice i fun s => s.enterClosing i .stop).examine, .ok [])
    | .ready | .running | .holding => (s.withPolicyNotice i fun s => s.enterClosing i .stop, .ok [])
    | .dark | .closing => (s, .refused .state)

/-- The timer that GET_SCREEN shows (R24): the strike timer in STRIKING, the cooldown timer in CLOSING. -/
def Screen.shownTimer (c : Screen) : Timer :=
  match c.state with
  | .striking => c.strikeTimer
  | .closing => c.cooldownTimer
  | .dark | .strikeWait | .ready | .running | .holding => none

/-- The position fields of GET_SCREEN (R24). -/
def Screen.positionBytes (c : Screen) : List Byte :=
  match c.position, c.current with
  | some p, some g => 1 :: (u8 p.segment ++ u24 p.frame ++ u8 g.kind.code ++ u24 (g.length - p.frame))
  | _, _ => [0]

/-- The reply fields of GET_SCREEN (R24). -/
def State.screenBytes (s : State) (i : Fin 6) : List Byte :=
  let c := s.screens[i]
  u8 c.state.code ++ u8 c.holdReason.code ++ u8 c.segments.length ++ c.positionBytes
    ++ u8 c.policies.gate.code ++ u8 c.policies.order.code ++ u8 c.policies.announce.code
    ++ optional (fun r : Fin 16 => u8 r.val) c.bound ++ flag c.autoClose
    ++ optional (fun n => u8 (n + 1)) (s.strikeQueue.findIdx? (· == i))
    ++ optional (fun ms => u16 (secondsUp ms)) c.shownTimer ++ u8 c.strikeTime ++ u16 c.cooldown

/-- GET_SCREEN (R24). -/
def getScreenEffect (screen : Byte) (s : State) : State × Answer :=
  match unit? 6 screen with
  | none => (s, .refused .outOfRange)
  | some i => (s, .ok (s.screenBytes i))

end Sys2Proof.Machine
end

