-- ==== Sys2Proof/Machine/Reset.lean ====
section
/-! DEFINITION. Starts: POWER_ON and the reset of a SITE_RESET (R25, R38, R57, R81, R106, R121, R135 to R138, R159, R180,
R195 to R197). -/

namespace Sys2Proof.Machine

/-- Every block outside the backup domain at its reset values; the input lines keep their levels, and the waiting
commands stay. The model's choice (log entry 37): notices handed and not yet taken are discarded. -/
def State.resetBlocks (s : State) (strap : Bool) : State :=
  { s with
    powered := true
    screens := Vector.replicate 6 .reset
    strikeQueue := []
    spacing := none
    cues := Vector.replicate 6 .reset
    channels := Vector.replicate 6 .reset
    announce := .reset
    playWords := s.playWords ++ [.stop]
    lanes := s.lanes.map fun l => .reset l.rawA l.rawB
    cars := []
    site := .reset
    key := .reset s.key.raw
    kitchen :=
      { menu := Vector.replicate 128 .reset, stations := s.kitchen.stations.map fun x => .reset x.bump.raw
        clock := 0, clockMs := 0 }
    orders :=
      { table := [], counter := 1, ready := Vector.replicate 2 [], deferred := []
        handed := s.orders.handed.map fun b => .reset b.raw }
    link := .reset strap
    notices := [] }

/-- The OPEN records of the book, ascending. -/
def CountBook.openRecords (b : CountBook) : List (Fin 16) := allRecords.filter fun r => b.records[r].state == .opened

/-- A kept backup domain: every OPEN record closed with the interrupted mark (R136). -/
def CountBook.interrupt (b : CountBook) : CountBook :=
  { b with
    records := b.records.map fun c => if c.state = .opened then c.close b.siteTime true else c
    valid := true }

/-- A start with a valid backup (R136, R138): START, then a COUNT_CLOSED for each record closed, ascending. -/
def State.startKept (s : State) (cause : StartCause) (strap : Bool) : State :=
  let b := s.book.interrupt
  (({ s with book := b }.resetBlocks strap).post 0 (.start cause false)).postAll
    (s.book.openRecords.map fun r => closedReport r b.records[r])

/-- A start with the backup lost (R137). -/
def State.startLost (s : State) (strap : Bool) : State :=
  ({ s with book := .rebuilt }.resetBlocks strap).post 0 (.start .powerOn true)

/-- The reset of a SITE_RESET (R138, R195), at which the strap is read again (R181), wherever it stands by then (log entry
19). -/
def State.siteReset (s : State) : State :=
  { s with strapReads := s.strapReads + 1 }.startKept .siteReset (Config.strapLevel s.strapReads)

/-- A power-on of a part without main power (R135 to R137): the backup-valid flag is read first. VBACKUP is present again
(log entry 6). -/
def State.powerOn (s : State) (strap : Bool) : State :=
  { if s.book.valid then s.startKept .powerOn strap else s.startLost strap with vbackup := true }

/-- POWER_ON (R136, R137, R196). A part that has main power has lost it just before (log entry 33). -/
def execPowerOn (strap : Bool) (s : State) : Host.Outcome State Fault Refusal := .next (s.losePower.powerOn strap)

/-- The reply of a SITE_RESET is being sent (R195). -/
def Link.endsPart (l : Link) : Bool :=
  match l.sending with
  | some (.reply r) => r.endsPart
  | _ => false

/-- SITE_RESET_RESET (R195): the sending of the SITE_RESET reply ends (log entry 18). -/
def execSiteResetReset (s : State) : Host.Outcome State Fault Refusal :=
  .next (s.ifPowered fun s => if s.link.endsPart then s.siteReset else s)

end Sys2Proof.Machine
end

