-- ==== Sys2Proof/Machine/Service.lean ====
section
/-! DEFINITION. The site link (10_site_link.md): the receiver, the service that takes requests, the transmit arbiter's end
of frame, and the site requests IDENTIFY, GET_STATUS and SITE_RESET. -/

namespace Sys2Proof.Machine

/-! ## Site requests (R193 to R195) -/

/-- IDENTIFY (R193). -/
def identifyEffect (s : State) : State × Answer :=
  (s, .ok (u16 Config.vendorCode ++ u16 Config.partCode ++ u8 Config.revision ++ u8 (if s.link.fastBaud then 1 else 0)
    ++ u8 6 ++ u8 8 ++ u8 4 ++ u8 2 ++ u8 Config.segments ++ u8 Config.cueEntries
    ++ u8 Config.announceQueue ++ u16 Config.carTable ++ u8 16
    ++ u8 128 ++ u8 Config.orderTable ++ u8 Config.stationQueue
    ++ u8 Config.receiveQueue ++ u8 Config.replyQueue ++ u8 Config.reportQueue ++ u16 Config.maxBody))

/-- GET_STATUS (R194). -/
def getStatusEffect (s : State) : State × Answer :=
  (s, .ok (u32 s.book.siteTime ++ allScreens.flatMap (fun i => u8 s.screens[i].state.code) ++ s.carCountBytes
    ++ u8 s.announce.state.code ++ u8 s.announce.queue.length
    ++ u8 s.orders.table.length ++ u8 s.orders.deferred.length
    ++ allStations.flatMap (fun st => u8 s.kitchen.stations[st].queue.length)
    ++ u8 s.link.received.length ++ u8 s.link.replies.length ++ u8 s.link.reports.length
    ++ secondCode s.key.office ++ u8 s.book.policy.code ++ flag s.book.valid ++ flag s.link.lost))

/-- SITE_RESET when it is taken (R195): the service takes no further frame. -/
def siteResetEffect (s : State) : State × Answer := (s.updLink fun l => { l with resetTaken := true }, .ok [])

/-! ## Taking a request (R187) -/

/-- What each request does, by the rule of its owning block, and what it answers. -/
def requestEffect (r : Request) (s : State) : State × Answer :=
  match r with
  | .identify => identifyEffect s
  | .getStatus => getStatusEffect s
  | .setTime t => setTimeEffect t s
  | .setSite w => setSiteEffect w s
  | .siteReset => siteResetEffect s
  | .loadProgram c t d gs => loadProgramEffect c t d gs s
  | .loadCues c es => loadCuesEffect c es s
  | .strike c => strikeEffect c s
  | .go c g a => goEffect c g a s
  | .hold c => holdEffect c s
  | .resume c => resumeEffect c s
  | .skip c => skipEffect c s
  | .stop c => stopEffect c s
  | .getScreen c => getScreenEffect c s
  | .setChannel c d t l r g => setChannelEffect c d t l r g s
  | .getChannel c => getChannelEffect c s
  | .announce c p t => announceEffect c p t s
  | .cancelAnnounce e => cancelAnnounceEffect e s
  | .getAnnounce => getAnnounceEffect s
  | .setLane l m d t => setLaneEffect l m d t s
  | .getLane l => getLaneEffect l s
  | .admitCar l t c o => admitCarEffect l t c o s
  | .cancelAdmit l => cancelAdmitEffect l s
  | .checkout t => checkoutEffect t s
  | .getCar t => getCarEffect t s
  | .readCount r => readCountEffect r s
  | .releaseCount r => releaseCountEffect r s
  | .setCountPolicy p => setCountPolicyEffect p s
  | .loadMenu i is => loadMenuEffect i is s
  | .setStock i t k l => setStockEffect i t k l s
  | .setStation t o p => setStationEffect t o p s
  | .order t ls => orderEffect t ls s
  | .cancelOrder n => cancelOrderEffect n s
  | .pickup n => pickupEffect n s
  | .getOrder n t => getOrderEffect n t s

/-- A request taken: its effect whole, then its reply at the tail of the reply queue (R187). -/
def State.take (s : State) (tag : Byte) (r : Request) : State :=
  (requestEffect r s).1.updLink
    (·.postReply ⟨tag, (requestEffect r s).2.result, (requestEffect r s).2.data, decide (r = .siteReset)⟩)

/-- The reply of a frame refused at its taking: the result code followed by the KIND received (R187). -/
def State.refuseFrame (s : State) (tag kind : Byte) (result : Result) : State :=
  s.updLink (·.postReply ⟨tag, result, [kind], false⟩)

/-- The taking of a frame, with the service's checks (R187). -/
def State.takeFrame (s : State) (f : RxFrame) : State :=
  if f.tag = 0 then s.refuseFrame f.tag f.kind .badTag
  else
    match decodeRequest f.kind f.body with
    | .error .unknownKind => s.refuseFrame f.tag f.kind .unknownKind
    | .error .badLength => s.refuseFrame f.tag f.kind .badLength
    | .ok r => s.take f.tag r

/-- The service may take a frame: fewer than 4 replies wait and no SITE_RESET has been taken (R187, R195). -/
def Link.serves (l : Link) : Bool := l.replies.length < Config.serviceLimit && !l.resetTaken

/-- The service takes frames, oldest first, for as long as its condition holds (R187). -/
def State.serviceLoop : Nat → State → State
  | 0, s => s
  | fuel + 1, s =>
    match s.link.received with
    | [] => s
    | f :: rest =>
      if s.link.serves then State.serviceLoop fuel ((s.updLink fun l => { l with received := rest }).takeFrame f) else s

/-- The service's test (R187). -/
def State.service (s : State) : State := State.serviceLoop s.link.received.length s

/-- An immediate reply (R186); where it starts at once, a reply has left and the service's test is made. -/
def State.replyAtOnce (s : State) (r : Reply) : State := (s.updLink (·.postImmediate r)).service

/-- A good frame is offered to the receive queue (R186). -/
def State.offer (s : State) (f : RxFrame) : State :=
  if s.link.received.length < Config.receiveQueue then
    (s.updLink fun l => { l with received := l.received ++ [f] }).service
  else s.replyAtOnce ⟨f.tag, .linkBusy, [f.kind], false⟩

/-- A request given as a command (log entry 8): the service takes it when no frame waits before it and its condition
holds; otherwise its frame joins the receive queue or is answered LINK_BUSY. -/
def State.request (s : State) (tag : Byte) (r : Request) : State :=
  s.ifPowered fun s =>
    if s.link.received.isEmpty && s.link.serves then
      if tag = 0 then s.refuseFrame tag r.kind .badTag
      else if r.fits then s.take tag r
      else s.refuseFrame tag r.kind .badLength
    else s.offer ⟨tag, r.kind, r.body⟩

/-- UNKNOWN_KIND (R187): the service takes a frame that fails one of its checks (log entry 23). -/
def execUnknownKind (tag kind : Byte) (body : List Byte) (s : State) : Host.Outcome State Fault Refusal :=
  .next (s.ifPowered fun s =>
    if s.link.received.isEmpty && s.link.serves then s.takeFrame ⟨tag, kind, body⟩ else s.offer ⟨tag, kind, body⟩)

/-! ## The receiver (R184 to R186) -/

/-- The BAD_FRAME reply (R186). -/
def Reply.badFrame : Reply := ⟨0, .badFrame, [], false⟩

/-- The receiver leaves the frame: HUNTING, the byte-gap timer stopped. -/
def Link.hunt (l : Link) : Link := { l with receiver := .hunting, gapTimer := none }

/-- The receiver stays in the frame with the bytes collected, the byte-gap timer restarted. -/
def Link.collect (l : Link) (bytes : List Byte) : Link :=
  { l with receiver := .inFrame bytes, gapTimer := .start Config.gapMs }

/-- LEN as received (R182). -/
def lenOf : List Byte → Nat
  | a :: b :: _ => (half a b).toNat
  | _ => 0

/-- A frame's bytes after SYNC carry their own CHECK (R183). -/
def checkOk (bytes : List Byte) : Bool :=
  putHalf (crc (bytes.take (bytes.length - 2))) == bytes.drop (bytes.length - 2)

/-- A complete frame is judged by its CHECK (R186). -/
def State.judge (s : State) (bytes : List Byte) : State :=
  if checkOk bytes then
    match bytes with
    | _ :: _ :: kind :: tag :: rest => s.offer ⟨tag, kind, rest.take (rest.length - 2)⟩
    | _ => s
  else s.replyAtOnce .badFrame

/-- A good byte inside a frame (R184). -/
def State.frameByte (s : State) (bytes : List Byte) : State :=
  if bytes.length = 2 ∧ (lenOf bytes < 2 ∨ Config.maxLen < lenOf bytes) then (s.updLink Link.hunt).replyAtOnce .badFrame
  else if bytes.length = lenOf bytes + 4 then (s.updLink Link.hunt).judge bytes
  else s.updLink (·.collect bytes)

/-- RX_BYTE (R184, R185). -/
def execRxByte (b : Byte) (stopGood : Bool) (s : State) : Host.Outcome State Fault Refusal :=
  .next (s.ifPowered fun s =>
    match s.link.receiver with
    | .hunting => if stopGood && b == 0xA5 then s.updLink (·.collect []) else s
    | .inFrame bytes => if stopGood then s.frameByte (bytes ++ [b]) else s.updLink Link.hunt)

/-- BYTE_GAP_EXPIRY (R185). -/
def execByteGapExpiry (s : State) : Host.Outcome State Fault Refusal :=
  .next (s.ifPowered fun s =>
    match s.link.receiver, s.link.gapTimer with
    | .inFrame _, some _ => s.updLink Link.hunt
    | _, _ => s)

/-! ## The end of a frame on TX (R192) -/

/-- The line becomes idle and the arbiter chooses; a reply that leaves starts the service's test. -/
def State.nextFrame (s : State) : State :=
  let t := s.updLink fun l => { l with sending := none }.startIfIdle
  if s.link.replies.isEmpty then t else t.service

/-- TX_FRAME_END (R192); the end of a SITE_RESET's reply is the reset (R195; log entry 18). -/
def execTxFrameEnd (s : State) : Host.Outcome State Fault Refusal :=
  .next (s.ifPowered fun s =>
    match s.link.sending with
    | none => s
    | some _ => if s.link.endsPart then s.siteReset else s.nextFrame)

end Sys2Proof.Machine
end

