-- ==== Sys2Proof/Machine/Requests.lean ====
section
/-! DEFINITION. The meanings of the request commands: each is the taking of that request by the service (R187; log entry
8), with the effect of its owning rule named in the docstring. -/

namespace Sys2Proof.Machine

/-- IDENTIFY (R193). -/
def execIdentify (tag : Byte) (s : State) : Host.Outcome State Fault Refusal :=
  .next (s.request tag .identify)

/-- GET_STATUS (R194). -/
def execGetStatus (tag : Byte) (s : State) : Host.Outcome State Fault Refusal :=
  .next (s.request tag .getStatus)

/-- SET_TIME (R134). -/
def execSetTime (tag : Byte) (time : Word) (s : State) : Host.Outcome State Fault Refusal :=
  .next (s.request tag (.setTime time))

/-- SET_SITE (R112). -/
def execSetSite (tag : Byte) (settings : SiteWire) (s : State) : Host.Outcome State Fault Refusal :=
  .next (s.request tag (.setSite settings))

/-- SITE_RESET (R195). -/
def execSiteReset (tag : Byte) (s : State) : Host.Outcome State Fault Refusal :=
  .next (s.request tag .siteReset)

/-- LOAD_PROGRAM (R5). -/
def execLoadProgram (tag screen : Byte) (strikeTime cooldown : Half) (segments : List SegmentWire) (s : State) :
    Host.Outcome State Fault Refusal :=
  .next (s.request tag (.loadProgram screen strikeTime cooldown segments))

/-- LOAD_CUES (R27). -/
def execLoadCues (tag screen : Byte) (entries : List CueWire) (s : State) : Host.Outcome State Fault Refusal :=
  .next (s.request tag (.loadCues screen entries))

/-- STRIKE (R12). -/
def execStrike (tag screen : Byte) (s : State) : Host.Outcome State Fault Refusal :=
  .next (s.request tag (.strike screen))

/-- GO (R16). -/
def execGo (tag screen start autoClose : Byte) (s : State) : Host.Outcome State Fault Refusal :=
  .next (s.request tag (.go screen start autoClose))

/-- HOLD (R17). -/
def execHold (tag screen : Byte) (s : State) : Host.Outcome State Fault Refusal :=
  .next (s.request tag (.hold screen))

/-- RESUME (R18). -/
def execResume (tag screen : Byte) (s : State) : Host.Outcome State Fault Refusal :=
  .next (s.request tag (.resume screen))

/-- SKIP (R19). -/
def execSkip (tag screen : Byte) (s : State) : Host.Outcome State Fault Refusal :=
  .next (s.request tag (.skip screen))

/-- STOP (R20). -/
def execStop (tag screen : Byte) (s : State) : Host.Outcome State Fault Refusal :=
  .next (s.request tag (.stop screen))

/-- GET_SCREEN (R24). -/
def execGetScreen (tag screen : Byte) (s : State) : Host.Outcome State Fault Refusal :=
  .next (s.request tag (.getScreen screen))

/-- SET_CHANNEL (R46). -/
def execSetChannel (tag channel : Byte) (delay trim duckLevel rampStep announceGain : Half) (s : State) :
    Host.Outcome State Fault Refusal :=
  .next (s.request tag (.setChannel channel delay trim duckLevel rampStep announceGain))

/-- GET_CHANNEL (R47). -/
def execGetChannel (tag channel : Byte) (s : State) : Host.Outcome State Fault Refusal :=
  .next (s.request tag (.getChannel channel))

/-- ANNOUNCE (R73). -/
def execAnnounce (tag clip priority targets : Byte) (s : State) : Host.Outcome State Fault Refusal :=
  .next (s.request tag (.announce clip priority targets))

/-- CANCEL_ANNOUNCE (R74). -/
def execCancelAnnounce (tag : Byte) (entry : Half) (s : State) : Host.Outcome State Fault Refusal :=
  .next (s.request tag (.cancelAnnounce entry))

/-- GET_ANNOUNCE (R76). -/
def execGetAnnounce (tag : Byte) (s : State) : Host.Outcome State Fault Refusal :=
  .next (s.request tag .getAnnounce)

/-- SET_LANE (R103). -/
def execSetLane (tag lane mode : Byte) (debounce timeout : Half) (s : State) : Host.Outcome State Fault Refusal :=
  .next (s.request tag (.setLane lane mode debounce timeout))

/-- GET_LANE (R104). -/
def execGetLane (tag lane : Byte) (s : State) : Host.Outcome State Fault Refusal :=
  .next (s.request tag (.getLane lane))

/-- ADMIT (R92). -/
def execAdmitCar (tag lane : Byte) (carTag : Half) (screen occupants : Byte) (s : State) :
    Host.Outcome State Fault Refusal :=
  .next (s.request tag (.admitCar lane carTag screen occupants))

/-- CANCEL_ADMIT (R97). -/
def execCancelAdmit (tag lane : Byte) (s : State) : Host.Outcome State Fault Refusal :=
  .next (s.request tag (.cancelAdmit lane))

/-- CHECKOUT (R115). -/
def execCheckout (tag : Byte) (carTag : Half) (s : State) : Host.Outcome State Fault Refusal :=
  .next (s.request tag (.checkout carTag))

/-- GET_CAR (R120). -/
def execGetCar (tag : Byte) (carTag : Half) (s : State) : Host.Outcome State Fault Refusal :=
  .next (s.request tag (.getCar carTag))

/-- READ_COUNT (R130). -/
def execReadCount (tag record : Byte) (s : State) : Host.Outcome State Fault Refusal :=
  .next (s.request tag (.readCount record))

/-- RELEASE_COUNT (R132). -/
def execReleaseCount (tag record : Byte) (s : State) : Host.Outcome State Fault Refusal :=
  .next (s.request tag (.releaseCount record))

/-- SET_COUNT_POLICY (R133). -/
def execSetCountPolicy (tag policy : Byte) (s : State) : Host.Outcome State Fault Refusal :=
  .next (s.request tag (.setCountPolicy policy))

/-- LOAD_MENU (R140). -/
def execLoadMenu (tag start : Byte) (items : List ItemWire) (s : State) : Host.Outcome State Fault Refusal :=
  .next (s.request tag (.loadMenu start items))

/-- SET_STOCK (R144). -/
def execSetStock (tag item tracked : Byte) (stock low : Half) (s : State) : Host.Outcome State Fault Refusal :=
  .next (s.request tag (.setStock item tracked stock low))

/-- SET_STATION (R146). -/
def execSetStation (tag station opened : Byte) (perUnit : Half) (s : State) : Host.Outcome State Fault Refusal :=
  .next (s.request tag (.setStation station opened perUnit))

/-- ORDER (R163). -/
def execOrder (tag : Byte) (carTag : Half) (lines : List LineWire) (s : State) : Host.Outcome State Fault Refusal :=
  .next (s.request tag (.order carTag lines))

/-- CANCEL_ORDER (R175). -/
def execCancelOrder (tag : Byte) (number : Half) (s : State) : Host.Outcome State Fault Refusal :=
  .next (s.request tag (.cancelOrder number))

/-- PICKUP (R173). -/
def execPickup (tag : Byte) (number : Half) (s : State) : Host.Outcome State Fault Refusal :=
  .next (s.request tag (.pickup number))

/-- GET_ORDER (R179). -/
def execGetOrder (tag : Byte) (number carTag : Half) (s : State) : Host.Outcome State Fault Refusal :=
  .next (s.request tag (.getOrder number carTag))

end Sys2Proof.Machine
end

