-- ==== Sys2Proof/Machine/Dispatch.lean ====
section
/-! DEFINITION. The dispatch: one arm for each command of spec/opcode_table.json, each one direct call of its meaning. -/

namespace Sys2Proof.Machine

def exec (i : Instr) (s : State) : Host.Outcome State Fault Refusal :=
  match i with
  | .powerOn strap => Sys2Proof.Machine.execPowerOn strap s
  | .mainPowerLoss => Sys2Proof.Machine.execMainPowerLoss s
  | .siteResetReset => Sys2Proof.Machine.execSiteResetReset s
  | .rxByte byte stopGood => Sys2Proof.Machine.execRxByte byte stopGood s
  | .byteGapExpiry => Sys2Proof.Machine.execByteGapExpiry s
  | .txFrameEnd => Sys2Proof.Machine.execTxFrameEnd s
  | .unknownKind tag kind body => Sys2Proof.Machine.execUnknownKind tag kind body s
  | .identify tag => Sys2Proof.Machine.execIdentify tag s
  | .getStatus tag => Sys2Proof.Machine.execGetStatus tag s
  | .setTime tag time => Sys2Proof.Machine.execSetTime tag time s
  | .setSite tag settings => Sys2Proof.Machine.execSetSite tag settings s
  | .siteReset tag => Sys2Proof.Machine.execSiteReset tag s
  | .loadProgram tag screen strikeTime cooldown segments => Sys2Proof.Machine.execLoadProgram tag screen strikeTime cooldown segments s
  | .loadCues tag screen entries => Sys2Proof.Machine.execLoadCues tag screen entries s
  | .strike tag screen => Sys2Proof.Machine.execStrike tag screen s
  | .go tag screen start autoClose => Sys2Proof.Machine.execGo tag screen start autoClose s
  | .hold tag screen => Sys2Proof.Machine.execHold tag screen s
  | .resume tag screen => Sys2Proof.Machine.execResume tag screen s
  | .skip tag screen => Sys2Proof.Machine.execSkip tag screen s
  | .stop tag screen => Sys2Proof.Machine.execStop tag screen s
  | .getScreen tag screen => Sys2Proof.Machine.execGetScreen tag screen s
  | .framePulse screen => Sys2Proof.Machine.execFramePulse screen s
  | .frameLossExpiry screen => Sys2Proof.Machine.execFrameLossExpiry screen s
  | .strikeTimerExpiry screen => Sys2Proof.Machine.execStrikeTimerExpiry screen s
  | .spacingIntervalExpiry => Sys2Proof.Machine.execSpacingIntervalExpiry s
  | .cooldownTimerExpiry screen => Sys2Proof.Machine.execCooldownTimerExpiry screen s
  | .pulseTimerExpiry screen line => Sys2Proof.Machine.execPulseTimerExpiry screen line s
  | .siteSampleTick channel portLeft portRight => Sys2Proof.Machine.execSiteSampleTick channel portLeft portRight s
  | .featureFrameArrival channel left right => Sys2Proof.Machine.execFeatureFrameArrival channel left right s
  | .setChannel tag channel delay trim duckLevel rampStep announceGain => Sys2Proof.Machine.execSetChannel tag channel delay trim duckLevel rampStep announceGain s
  | .getChannel tag channel => Sys2Proof.Machine.execGetChannel tag channel s
  | .atLevelNotice channel => Sys2Proof.Machine.execAtLevelNotice channel s
  | .policyNotice screen => Sys2Proof.Machine.execPolicyNotice screen s
  | .announce tag clip priority targets => Sys2Proof.Machine.execAnnounce tag clip priority targets s
  | .cancelAnnounce tag entry => Sys2Proof.Machine.execCancelAnnounce tag entry s
  | .getAnnounce tag => Sys2Proof.Machine.execGetAnnounce tag s
  | .done level => Sys2Proof.Machine.execDone level s
  | .playerTimerExpiry => Sys2Proof.Machine.execPlayerTimerExpiry s
  | .loopRawChange lane loop level => Sys2Proof.Machine.execLoopRawChange lane loop level s
  | .loopDebounceExpiry lane loop => Sys2Proof.Machine.execLoopDebounceExpiry lane loop s
  | .admissionTimerExpiry lane => Sys2Proof.Machine.execAdmissionTimerExpiry lane s
  | .setLane tag lane mode debounce timeout => Sys2Proof.Machine.execSetLane tag lane mode debounce timeout s
  | .getLane tag lane => Sys2Proof.Machine.execGetLane tag lane s
  | .admitCar tag lane carTag screen occupants => Sys2Proof.Machine.execAdmitCar tag lane carTag screen occupants s
  | .cancelAdmit tag lane => Sys2Proof.Machine.execCancelAdmit tag lane s
  | .checkout tag carTag => Sys2Proof.Machine.execCheckout tag carTag s
  | .getCar tag carTag => Sys2Proof.Machine.execGetCar tag carTag s
  | .readCount tag record => Sys2Proof.Machine.execReadCount tag record s
  | .releaseCount tag record => Sys2Proof.Machine.execReleaseCount tag record s
  | .setCountPolicy tag policy => Sys2Proof.Machine.execSetCountPolicy tag policy s
  | .keyRawChange level => Sys2Proof.Machine.execKeyRawChange level s
  | .keyDebounceExpiry => Sys2Proof.Machine.execKeyDebounceExpiry s
  | .siteTimeAdvance => Sys2Proof.Machine.execSiteTimeAdvance s
  | .kitchenClockAdvance => Sys2Proof.Machine.execKitchenClockAdvance s
  | .loadMenu tag start items => Sys2Proof.Machine.execLoadMenu tag start items s
  | .setStock tag item tracked stock low => Sys2Proof.Machine.execSetStock tag item tracked stock low s
  | .setStation tag station opened perUnit => Sys2Proof.Machine.execSetStation tag station opened perUnit s
  | .bumpRawChange station level => Sys2Proof.Machine.execBumpRawChange station level s
  | .bumpDebounceExpiry station => Sys2Proof.Machine.execBumpDebounceExpiry station s
  | .ticketDoneNotice number station => Sys2Proof.Machine.execTicketDoneNotice number station s
  | .slotFreeNotice => Sys2Proof.Machine.execSlotFreeNotice s
  | .callPlayedNotice number entry kind outcome => Sys2Proof.Machine.execCallPlayedNotice number entry kind outcome s
  | .recallTimerExpiry number => Sys2Proof.Machine.execRecallTimerExpiry number s
  | .handedRawChange window level => Sys2Proof.Machine.execHandedRawChange window level s
  | .handedDebounceExpiry window => Sys2Proof.Machine.execHandedDebounceExpiry window s
  | .order tag carTag lines => Sys2Proof.Machine.execOrder tag carTag lines s
  | .cancelOrder tag number => Sys2Proof.Machine.execCancelOrder tag number s
  | .pickup tag number => Sys2Proof.Machine.execPickup tag number s
  | .getOrder tag number carTag => Sys2Proof.Machine.execGetOrder tag number carTag s
  | .backupSupplyLoss => Sys2Proof.Machine.execBackupSupplyLoss s

end Sys2Proof.Machine
end

