-- ==== Sys2Proof/Machine/Idle.lean ====
section
/-! DEFINITION. What the part does while no command waits: it takes a notice in flight, or the expiry of a timer that has
run out, or the end of a second; otherwise one millisecond passes (log entries 1, 2 and 10). -/

namespace Sys2Proof.Machine

/-- The event in which a notice is taken. -/
def Notice.event : Notice → Instr
  | .policy i => .policyNotice i
  | .atLevel i => .atLevelNotice i
  | .slotFree => .slotFreeNotice
  | .ticketDone n st => .ticketDoneNotice n st
  | .callPlayed n e k o => .callPlayedNotice n e k o

/-- An event, if its timer has run out. -/
def expiryIf (t : Timer) (c : Instr) : List Instr := if t.due then [c] else []

/-- The expiries of one screen's timers and lines. -/
def State.screenExpiries (s : State) (i : Fin 6) : List Instr :=
  expiryIf s.screens[i].strikeTimer (.strikeTimerExpiry i) ++ expiryIf s.screens[i].cooldownTimer (.cooldownTimerExpiry i)
    ++ expiryIf s.screens[i].frameLossTimer (.frameLossExpiry i)
    ++ allLines.flatMap fun l => expiryIf s.cues[i].timers[l] (.pulseTimerExpiry i l)

/-- The expiries of one lane's timers. -/
def State.laneExpiries (s : State) (i : Fin 8) : List Instr :=
  expiryIf s.lanes[i].timerA (.loopDebounceExpiry i .a) ++ expiryIf s.lanes[i].timerB (.loopDebounceExpiry i .b)
    ++ expiryIf s.lanes[i].admTimer (.admissionTimerExpiry i)

/-- The expiries that are due in a powered part, in the model's order. -/
def State.expiries (s : State) : List Instr :=
  expiryIf s.link.gapTimer .byteGapExpiry
    ++ (if s.kitchen.clockMs ≥ Config.second then [.kitchenClockAdvance] else [])
    ++ allScreens.flatMap s.screenExpiries
    ++ expiryIf s.spacing .spacingIntervalExpiry
    ++ expiryIf s.announce.timer .playerTimerExpiry
    ++ allLanes.flatMap s.laneExpiries
    ++ expiryIf s.key.timer .keyDebounceExpiry
    ++ allStations.flatMap (fun st => expiryIf s.kitchen.stations[st].bump.timer (.bumpDebounceExpiry st))
    ++ allWindows.flatMap (fun w => expiryIf s.orders.handed[w].timer (.handedDebounceExpiry w))
    ++ s.orders.table.flatMap fun o => expiryIf o.recallTimer (.recallTimerExpiry o.number)

/-- The event that the part takes of itself, if one is due: the oldest notice, then the end of site time's second, then
the expiries. An unpowered part has only site time (R134). -/
def State.dueEvent (s : State) : Option Instr :=
  if s.powered then
    match s.notices with
    | n :: _ => some n.event
    | [] => if s.book.secondMs ≥ Config.second then some .siteTimeAdvance else s.expiries.head?
  else if s.book.valid && s.book.secondMs ≥ Config.second then some .siteTimeAdvance
  else none

/-! ## One millisecond -/

def Screen.elapse (c : Screen) : Screen :=
  { c with
    strikeTimer := c.strikeTimer.elapse, cooldownTimer := c.cooldownTimer.elapse
    frameLossTimer := c.frameLossTimer.elapse }

def Lane.elapse (l : Lane) : Lane :=
  { l with timerA := l.timerA.elapse, timerB := l.timerB.elapse, admTimer := l.admTimer.elapse }

def Button.elapse (b : Button) : Button := { b with timer := b.timer.elapse }

/-- Site time's second goes on while either supply holds the backup domain (R134). -/
def CountBook.elapse (b : CountBook) : CountBook := { b with secondMs := b.secondMs + 1 }

/-- Every running timer of a powered part one millisecond on. -/
def State.elapseBlocks (s : State) : State :=
  { s with
    screens := s.screens.map Screen.elapse
    spacing := s.spacing.elapse
    cues := s.cues.map fun u => { u with timers := u.timers.map Timer.elapse }
    announce := { s.announce with timer := s.announce.timer.elapse }
    lanes := s.lanes.map Lane.elapse
    key := { s.key with timer := s.key.timer.elapse }
    kitchen :=
      { s.kitchen with
        stations := s.kitchen.stations.map fun x => { x with bump := x.bump.elapse }
        clockMs := s.kitchen.clockMs + 1 }
    orders :=
      { s.orders with
        table := s.orders.table.map fun o => { o with recallTimer := o.recallTimer.elapse }
        handed := s.orders.handed.map Button.elapse }
    link := { s.link with gapTimer := s.link.gapTimer.elapse } }

/-- One millisecond of elapsed time. -/
def State.elapse (s : State) : State :=
  if s.powered then { s.elapseBlocks with book := s.book.elapse }
  else if s.book.valid then { s with book := s.book.elapse }
  else s

end Sys2Proof.Machine
end

