-- ==== Sys2Proof/WellFormed.lean ====
section
/-! DEFINITION. Which commands are well formed: a request comes in a frame with a TAG of 1 to 255 (R182) and a body that
a frame can carry (R189), the UNKNOWN_KIND row's frame fails a check of R187, and a notice carries numbers in range and
an outcome that the announce path hands (R79). -/

namespace Sys2Proof

/-- A number of an order or an announcement entry, 1 to 65,535 (R58, R160). -/
def numberOk (n : Nat) : Bool := 1 ≤ n && n ≤ 65535

/-- The TAG and request that a request command stands for. -/
def Instr.request : Instr → Option (Byte × Request)
  | .identify t => some (t, .identify)
  | .getStatus t => some (t, .getStatus)
  | .setTime t x => some (t, .setTime x)
  | .setSite t w => some (t, .setSite w)
  | .siteReset t => some (t, .siteReset)
  | .loadProgram t s a c g => some (t, .loadProgram s a c g)
  | .loadCues t s e => some (t, .loadCues s e)
  | .strike t s => some (t, .strike s)
  | .go t s g a => some (t, .go s g a)
  | .hold t s => some (t, .hold s)
  | .resume t s => some (t, .resume s)
  | .skip t s => some (t, .skip s)
  | .stop t s => some (t, .stop s)
  | .getScreen t s => some (t, .getScreen s)
  | .setChannel t c d g l r a => some (t, .setChannel c d g l r a)
  | .getChannel t c => some (t, .getChannel c)
  | .announce t c p g => some (t, .announce c p g)
  | .cancelAnnounce t e => some (t, .cancelAnnounce e)
  | .getAnnounce t => some (t, .getAnnounce)
  | .setLane t l m d a => some (t, .setLane l m d a)
  | .getLane t l => some (t, .getLane l)
  | .admitCar t l c s o => some (t, .admitCar l c s o)
  | .cancelAdmit t l => some (t, .cancelAdmit l)
  | .checkout t c => some (t, .checkout c)
  | .getCar t c => some (t, .getCar c)
  | .readCount t r => some (t, .readCount r)
  | .releaseCount t r => some (t, .releaseCount r)
  | .setCountPolicy t p => some (t, .setCountPolicy p)
  | .loadMenu t s i => some (t, .loadMenu s i)
  | .setStock t i k s l => some (t, .setStock i k s l)
  | .setStation t s o p => some (t, .setStation s o p)
  | .order t c l => some (t, .order c l)
  | .cancelOrder t n => some (t, .cancelOrder n)
  | .pickup t n => some (t, .pickup n)
  | .getOrder t n c => some (t, .getOrder n c)
  | .powerOn _ => none
  | .mainPowerLoss => none
  | .siteResetReset => none
  | .rxByte _ _ => none
  | .byteGapExpiry => none
  | .txFrameEnd => none
  | .unknownKind _ _ _ => none
  | .framePulse _ => none
  | .frameLossExpiry _ => none
  | .strikeTimerExpiry _ => none
  | .spacingIntervalExpiry => none
  | .cooldownTimerExpiry _ => none
  | .pulseTimerExpiry _ _ => none
  | .siteSampleTick _ _ _ => none
  | .featureFrameArrival _ _ _ => none
  | .atLevelNotice _ => none
  | .policyNotice _ => none
  | .done _ => none
  | .playerTimerExpiry => none
  | .loopRawChange _ _ _ => none
  | .loopDebounceExpiry _ _ => none
  | .admissionTimerExpiry _ => none
  | .keyRawChange _ => none
  | .keyDebounceExpiry => none
  | .siteTimeAdvance => none
  | .kitchenClockAdvance => none
  | .bumpRawChange _ _ => none
  | .bumpDebounceExpiry _ => none
  | .ticketDoneNotice _ _ => none
  | .slotFreeNotice => none
  | .callPlayedNotice _ _ _ _ => none
  | .recallTimerExpiry _ => none
  | .handedRawChange _ _ => none
  | .handedDebounceExpiry _ => none
  | .backupSupplyLoss => none

/-- The frame fails one of the three checks that the service makes (R187). -/
def frameRefused (tag kind : Byte) (body : List Byte) : Bool :=
  tag == 0 || match decodeRequest kind body with
    | .error _ => true
    | .ok _ => false

/-- A command is well formed. -/
def Instr.wf (i : Instr) : Bool :=
  match i.request with
  | some (tag, r) => tag != 0 && r.fits
  | none =>
    match i with
    | .unknownKind tag kind body => body.length ≤ Config.maxBody && frameRefused tag kind body
    | .ticketDoneNotice n _ => numberOk n
    | .callPlayedNotice n e _ o => numberOk n && numberOk e && o != .cancelled
    | .recallTimerExpiry n => numberOk n
    | _ => true

end Sys2Proof
end

