-- ==== Sys2Proof/Safety.lean ====
section
/-! DEFINITION. The terms that statements about the FV-608 use: when the service takes a request, what a reply adds, the
bytes of a frame given to RX, and the invariants of the part (R13, R15, R39, R93, R109, R161, R186, R187, R191). -/

namespace Sys2Proof.Machine

/-! ## Taking requests -/

/-- A request with this TAG is taken at once: main power is present, no frame waits before it, the service's condition
holds and the TAG is good (R187). -/
abbrev State.takes (s : State) (tag : Byte) : Prop :=
  s.powered = true ∧ s.link.received = [] ∧ s.link.serves = true ∧ tag ≠ 0

/-- The reply of a refused request joins the reply queue (R187, R188). -/
def State.refused (s : State) (tag : Byte) (result : Result) (data : List Byte) : State :=
  s.updLink (·.postReply ⟨tag, result, data, false⟩)

/-- The reply OK of a request joins the reply queue (R187, R188). -/
def State.replied (s : State) (tag : Byte) (data : List Byte) : State := s.refused tag .ok data

/-- A request command gets this result in its reply and changes nothing else (R187). -/
abbrev State.refuses (s : State) (tag : Byte) (c : Instr) (result : Result) : Prop :=
  exec c s = .next (s.refused tag result [])

/-- The end of the sending of a SITE_RESET's reply, by either row, with the BAUD strap at the level then found (R181, R195; log
entries 18 and 19). -/
abbrev State.restarts (s : State) (c : Instr) (strap : Bool) : Prop :=
  s.powered = true ∧ s.link.endsPart = true ∧ (c = .siteResetReset ∨ c = .txFrameEnd)
    ∧ strap = Config.strapLevel s.strapReads

/-- A command that starts the part with the BAUD strap at a level (R196). -/
abbrev State.starts (s : State) (c : Instr) (strap : Bool) : Prop := c = .powerOn strap ∨ s.restarts c strap

/-- One byte received with a good stop bit. -/
def State.receiveByte (s : State) (b : Byte) : State :=
  match exec (.rxByte b true) s with
  | .next t => t
  | _ => s

/-- Bytes received on RX one after another, each with a good stop bit. -/
def State.receive (s : State) (bytes : List Byte) : State := bytes.foldl State.receiveByte s

/-! ## Bytes of the frames sent -/

/-- A number in one byte, and a number and a time in several, high byte first (R182, R189). -/
abbrev bytes1 (n : Nat) : List Byte := [BitVec.ofNat 8 n]
abbrev bytes2 (n : Nat) : List Byte := [BitVec.ofNat 8 (n / 256), BitVec.ofNat 8 n]
abbrev bytes3 (n : Nat) : List Byte := [BitVec.ofNat 8 (n / 65536), BitVec.ofNat 8 (n / 256), BitVec.ofNat 8 n]
abbrev bytes4 (w : Word) : List Byte :=
  [w.extractLsb' 24 8, w.extractLsb' 16 8, w.extractLsb' 8 8, w.extractLsb' 0 8]

/-- A flag, mark or indication: 1 for set or yes, the model's choice (log entry 35). -/
abbrev bit (b : Bool) : List Byte := [if b then 1 else 0]

/-- An enumerated value: its place in the list of its values, from 0 upward (R189). -/
abbrev codeIn {α : Type} [DecidableEq α] (values : List α) (x : α) : List Byte := bytes1 (values.idxOf x)

/-- A report with this record is sent as a frame of KIND 0x81 and TAG 0 with this report kind code, its site time and subject,
these bytes for the record, and its lost mark (R190). -/
abbrev ReportRecord.sentAs (record : ReportRecord) (code : Byte) (fields : List Byte) : Prop :=
  ∀ (time : Word) (subject : Nat) (mark : Bool), (Sending.report ⟨time, subject, record⟩ mark).bytes =
    frameBytes 0x81 0 (code :: bytes4 time ++ bytes1 subject ++ fields ++ bit mark)

/-! ## Invariants -/

/-- The three queues of the link keep within their places (R186, R187, R191). -/
def Link.bounded (l : Link) : Prop :=
  l.received.length ≤ Config.receiveQueue ∧ l.replies.length ≤ Config.replyQueue
    ∧ l.reports.length ≤ Config.reportQueue

/-- A lane's barrier is up exactly while it holds a pending admission, and an admission stands in ENTRY alone (R83, R93). -/
def Lane.barrierOk (l : Lane) : Prop :=
  l.barrierUp = l.pending.isSome ∧ (l.pending.isSome = true → l.mode = .entry)

/-- Every lane's barrier follows its pending admission. -/
def State.barriersOk (s : State) : Prop := ∀ i : Fin 8, s.lanes[i].barrierOk

/-- A channel's settings, queue, delay line and duck gain are in range and its at-level indication is exact (R39). -/
def Channel.ok (c : Channel) : Prop :=
  c.delay ≤ 2047 ∧ c.trim ≤ 32767 ∧ c.duckLevel ≤ 16384 ∧ 1 ≤ c.rampStep ∧ c.rampStep ≤ 1024 ∧ c.announceGain ≤ 32767
    ∧ c.input.length ≤ Config.inputQueue ∧ c.writePoint < Config.ringFrames ∧ Ring.wf c.ring = true
    ∧ c.duckGain ≤ Config.unity ∧ c.atLevel = (c.mode == .level && c.duckGain == c.duckLevel)

/-- Every channel is in range. -/
def State.channelsOk (s : State) : Prop := ∀ i : Fin 6, s.channels[i].ok

/-- Car tags rise strictly, so no two records hold one tag, and each is 1 to 65,535 (R107). -/
def carsRise (cars : List Car) : Prop :=
  (cars.map (·.tag)).Pairwise (· < ·) ∧ ∀ c ∈ cars, 1 ≤ c.tag ∧ c.tag ≤ 65535

/-- The car table keeps within the lot capacities, and those within the table (R107, R109, R110). -/
def State.carsOk (s : State) : Prop :=
  carsRise s.cars ∧ (∀ i : Fin 6, s.carCount i ≤ s.site.capacity.get i)
    ∧ (∀ i : Fin 6, s.site.capacity.get i ≤ Config.maxCapacity) ∧ s.site.capacity.toList.sum ≤ Config.carTable

/-- Each pending admission names the one car record in PENDING of its lane, and each such record the admission of its lane
(R93). -/
def State.admissionsOk (s : State) : Prop :=
  (∀ (l : Fin 8) (p : Admission), s.lanes[l].pending = some p →
      ∃ c ∈ s.cars, c.tag = p.tag ∧ c.screen = p.screen ∧ c.record = p.record ∧ c.state = .pending ∧ c.lane = l)
    ∧ ∀ c ∈ s.cars, c.state = .pending → s.lanes[c.lane].pending = some ⟨c.tag, c.screen, c.record⟩

/-- Order numbers rise strictly, so no two records hold one number, and each is 1 to 65,535 (R160, R161). -/
def ordersRise (orders : List Order) : Prop :=
  (orders.map (·.number)).Pairwise (· < ·) ∧ ∀ o ∈ orders, 1 ≤ o.number ∧ o.number ≤ 65535

/-- The announcement queue, the order table and the station queues keep within their places (R58, R148, R160), and live
order numbers are distinct (R161). -/
def State.queuesOk (s : State) : Prop :=
  s.announce.queue.length ≤ Config.announceQueue ∧ s.orders.table.length ≤ Config.orderTable
    ∧ (∀ st : Fin 4, s.kitchen.stations[st].queue.length ≤ Config.stationQueue)
    ∧ ordersRise s.orders.table ∧ 1 ≤ s.orders.counter ∧ s.orders.counter ≤ 65535

/-- The strike queue holds each screen in STRIKE_WAIT once and no other, and at most one screen is STRIKING (R13). -/
def State.strikeOk (s : State) : Prop :=
  s.strikeQueue.Nodup ∧ (∀ i : Fin 6, i ∈ s.strikeQueue ↔ s.screens[i].state = .strikeWait)
    ∧ ∀ i j : Fin 6, s.screens[i].state = .striking → s.screens[j].state = .striking → i = j

/-- A screen whose show goes on: STRIKE_WAIT, STRIKING, READY, RUNNING or HOLDING (R15). -/
def Screen.showing (c : Screen) : Bool :=
  match c.state with
  | .strikeWait | .striking | .ready | .running | .holding => true
  | .dark | .closing => false

/-- Each such screen is bound to an OPEN record that names it, each OPEN record to such a screen, and DARK and CLOSING
screens to none (R15). -/
def State.boundOk (s : State) : Prop :=
  (∀ i : Fin 6, s.screens[i].showing = s.screens[i].bound.isSome)
    ∧ ∀ (i : Fin 6) (r : Fin 16), s.screens[i].bound = some r
        ↔ s.book.records[r].state = .opened ∧ s.book.records[r].screen = some i

/-- While main power is present the strike arbiter and the bindings are in order; a part without it holds no show. -/
def State.showsOk (s : State) : Prop := s.powered = true → s.strikeOk ∧ s.boundOk

end Sys2Proof.Machine
end

