-- ==== Sys2Proof/Certificates/Slice0/Obligations.lean ====
section
/-! DEFINITION. The statements about the FV-608. A next state is written out from the state before it, so that what it
does not name is unchanged: each is a result and a frame at once. `s.takes tag` says that the service takes a request at
once, `t.replied tag data` is `t` with the reply OK added, and `t.post subject record` is `t` with a report queued. -/

open Sys2Proof Sys2Proof.Machine

/-! ## The step, requests and the link -/

/-- A step with a command in the queue is that command on the state with the rest of the queue. -/
def Obligations.StepRunsFrontCommand : Prop :=
  ∀ (c : Instr) (s : State) (rest : List Instr),
    step { s with pending := c :: rest } = exec c { s with pending := rest }

/-- The model's choice (log entries 1, 2 and 10): on an empty queue a step takes the oldest notice, then an ended second of
site time, then the first expiry that is due. Else one millisecond passes: each running timer falls by 1, each stopped one stays
stopped, and the milliseconds of site time's and the kitchen clock's second rise by 1 (log entry 1). -/
def Obligations.IdleStep : Prop :=
  ∀ s : State, s.pending = [] →
    (∀ n rest, s.powered = true → s.notices = n :: rest → step s = exec n.event s)
    ∧ (s.powered = true → s.notices = [] → 1000 ≤ s.book.secondMs → step s = exec .siteTimeAdvance s)
    ∧ (∀ c rest, s.powered = true → s.notices = [] → s.book.secondMs < 1000 → s.expiries = c :: rest → step s = exec c s)
    ∧ (s.powered = true → s.notices = [] → s.book.secondMs < 1000 → s.expiries = [] →
        step s = .next { s with
          screens := s.screens.map fun c => { c with
            strikeTimer := c.strikeTimer.map (· - 1), cooldownTimer := c.cooldownTimer.map (· - 1)
            frameLossTimer := c.frameLossTimer.map (· - 1) }
          spacing := s.spacing.map (· - 1)
          cues := s.cues.map fun u => { u with timers := u.timers.map fun t => t.map (· - 1) }
          announce := { s.announce with timer := s.announce.timer.map (· - 1) }
          lanes := s.lanes.map fun l => { l with
            timerA := l.timerA.map (· - 1), timerB := l.timerB.map (· - 1), admTimer := l.admTimer.map (· - 1) }
          key := { s.key with timer := s.key.timer.map (· - 1) }
          kitchen := { s.kitchen with
            stations := s.kitchen.stations.map fun x => { x with bump := { x.bump with timer := x.bump.timer.map (· - 1) } }
            clockMs := s.kitchen.clockMs + 1 }
          orders := { s.orders with
            table := s.orders.table.map fun o => { o with recallTimer := o.recallTimer.map (· - 1) }
            handed := s.orders.handed.map fun b => { b with timer := b.timer.map (· - 1) } }
          link := { s.link with gapTimer := s.link.gapTimer.map (· - 1) }
          book := { s.book with secondMs := s.book.secondMs + 1 } })
    ∧ (s.powered = false → s.book.valid = true → 1000 ≤ s.book.secondMs → step s = exec .siteTimeAdvance s)
    ∧ (s.powered = false → s.book.valid = true → s.book.secondMs < 1000 →
        step s = .next { s with book := { s.book with secondMs := s.book.secondMs + 1 } })
    ∧ (s.powered = false → s.book.valid = false → step s = .next s)

/-- Every request that a frame can carry is read back from its KIND and BODY (R189); one whose list no frame can carry has a
bad length (log entry 32). -/
def Obligations.RequestDecodeEncode : Prop :=
  ∀ r : Request, (r.fits = true → decodeRequest r.kind r.body = .ok r)
    ∧ (r.fits = false → decodeRequest r.kind r.body = .error .badLength)

/-- The bytes of a request's frame, received one after another while HUNTING, do what the request command does: SYNC, LEN,
KIND, TAG, BODY and CHECK are read, judged and taken by the service (R182 to R187; log entry 8: the command is the taking
of the request by the service). -/
def Obligations.FrameBytesTakeTheRequest : Prop :=
  ∀ (c : Instr) (tag : Byte) (r : Request) (s : State), c.request = some (tag, r) → r.fits = true → s.takes tag →
    s.link.receiver = .hunting → s.link.gapTimer = none →
    exec c s = .next (s.receive (frameBytes r.kind tag r.body))

/-- The CHECK (R183): start value, one byte's eight shifts, the check value, and the receiver's test. -/
def Obligations.CheckIsTheCrc : Prop :=
  crc [] = 0xFFFF
  ∧ (∀ bytes b, crc (bytes ++ [b]) =
      (List.range 8).foldl (fun (x : Half) (_ : Nat) => if x.getLsbD 15 then (x <<< 1) ^^^ 0x1021 else x <<< 1)
        (crc bytes ^^^ (b.setWidth 16 <<< 8)))
  ∧ crc [0x31, 0x32, 0x33, 0x34, 0x35, 0x36, 0x37, 0x38, 0x39] = 0x29B1
  ∧ (∀ bytes (x : Half), checkOk (bytes ++ [x.extractLsb' 8 8, x.extractLsb' 0 8]) = true ↔ x = crc bytes)
  ∧ ∀ kind tag body, ∃ inner : List Byte,
      frameBytes kind tag body = 0xA5 :: inner ++ [(crc inner).extractLsb' 8 8, (crc inner).extractLsb' 0 8]
      ∧ inner = putHalf (BitVec.ofNat 16 (body.length + 2)) ++ [kind, tag] ++ body

/-- RX_BYTE (R181, R184, R185): the search for SYNC, a faulted byte, the two LEN bytes, LEN out of range, and a byte collected.

The last byte of a frame (R186): a failing CHECK ends it with BAD_FRAME, whether or not frames wait behind the service; a good frame that the service cannot take yet joins
the receive queue, or at 4 waiting frames is answered LINK_BUSY.

BYTE_GAP_EXPIRY (R185): the frame is abandoned without a reply. -/
def Obligations.ReceiverBytesAndGaps : Prop :=
  (∀ (s : State) (b : Byte), s.powered = true →
      (∀ good, s.link.receiver = .hunting → exec (.rxByte b good) s =
        .next (if good = true ∧ b = 0xA5 then
          { s with link := { s.link with receiver := .inFrame [], gapTimer := some 20 } } else s))
      ∧ (∀ bytes, s.link.receiver = .inFrame bytes → exec (.rxByte b false) s =
          .next { s with link := { s.link with receiver := .hunting, gapTimer := none } })
      ∧ (s.link.receiver = .inFrame [] → exec (.rxByte b true) s =
          .next { s with link := { s.link with receiver := .inFrame [b], gapTimer := some 20 } })
      ∧ (∀ hi, s.link.receiver = .inFrame [hi] → (s.link.received = [] ∨ s.link.serves = false) →
          ((hi ++ b).toNat < 2 ∨ 1026 < (hi ++ b).toNat) → exec (.rxByte b true) s =
          .next { s with link := { s.link with receiver := .hunting, gapTimer := none }.postImmediate ⟨0, .badFrame, [], false⟩ })
      ∧ (∀ hi, s.link.receiver = .inFrame [hi] → 2 ≤ (hi ++ b).toNat → (hi ++ b).toNat ≤ 1026 → exec (.rxByte b true) s =
          .next { s with link := { s.link with receiver := .inFrame [hi, b], gapTimer := some 20 } })
      ∧ (∀ hi lo inner, s.link.receiver = .inFrame (hi :: lo :: inner) → inner.length + 1 < (hi ++ lo).toNat + 2 →
          exec (.rxByte b true) s =
          .next { s with link := { s.link with receiver := .inFrame (hi :: lo :: inner ++ [b]), gapTimer := some 20 } })
      ∧ ∀ (hi lo kind tag check : Byte) (body : List Byte) (l : Link),
          s.link.receiver = .inFrame (hi :: lo :: kind :: tag :: body ++ [check]) → (hi ++ lo).toNat = body.length + 2 →
          l = { s.link with receiver := .hunting, gapTimer := none } →
          (check ++ b ≠ crc (hi :: lo :: kind :: tag :: body) → (s.link.received = [] ∨ s.link.serves = false) →
            exec (.rxByte b true) s =
            .next { s with link := l.postImmediate ⟨0, .badFrame, [], false⟩ })
          ∧ (check ++ b = crc (hi :: lo :: kind :: tag :: body) → s.link.serves = false → s.link.received.length < 4 →
            exec (.rxByte b true) s = .next { s with link := { l with received := s.link.received ++ [⟨tag, kind, body⟩] } })
          ∧ (check ++ b = crc (hi :: lo :: kind :: tag :: body) → s.link.serves = false → 4 ≤ s.link.received.length →
            exec (.rxByte b true) s = .next { s with link := l.postImmediate ⟨tag, .linkBusy, [kind], false⟩ }))
  ∧ (∀ (s : State) (bytes : List Byte) (ms : Nat), s.powered = true → s.link.receiver = .inFrame bytes →
        s.link.gapTimer = some ms →
        exec .byteGapExpiry s = .next { s with link := { s.link with receiver := .hunting, gapTimer := none } })

/-- TX_FRAME_END (R191, R192): the oldest reply goes before every report, a report takes the lost mark with it, and with
nothing waiting the line is idle.

The service's test (R187), made when a reply leaves: the oldest frames are taken, one after another, while the service's
condition holds, which is that fewer than 4 replies wait and no SITE_RESET has been taken (R195); one waiting frame is taken as
its request command is.

The report queue (R191): a report joins the tail while 64 do not wait, and is lost otherwise with the flag set.

The end of a SITE_RESET's reply (R195): TX_FRAME_END is then SITE_RESET_RESET (inferred: log entry 18).

The TX line (R181): each byte is a start bit, eight data bits least significant first and a stop bit, back to back, and the
line rests at the stop-bit level. That a data bit 1 stands at the stop-bit level is presumed (log entry 27).

The bytes of a frame sent (R182, R188 to R190, and the owning rules of the records: R23, R35, R36, R43, R80, R105, R129, R131,
R157, R178, R196): a reply has KIND 0x80, its TAG, its result code and its data; a report KIND 0x81, TAG 0, its kind code, site
time, subject, record and lost mark. The model's choices: a presence byte for each of the last five fields of CUE and for tag
and order number of ANNOUNCE_ON_AIR and ANNOUNCE_DONE (log entry 11), the order low, high, open, closed, LOCKED and OFFICE are
coded in (log entry 12), no presence byte for the times of ORDER_READY and the show number and times of COUNT_CLOSED (log entry
13), widths of computed fields (log entry 14), and 1 for a set flag, mark or indication (log entry 35). -/
def Obligations.TransmitArbiter : Prop :=
  (∀ l : Link, l.serves = true ↔ l.replies.length < 4 ∧ l.resetTaken = false) ∧
  (∀ s : State, s.powered = true → s.link.sending.isSome = true → s.link.endsPart = false →
      (∀ r rest, s.link.replies = r :: rest → s.link.received = [] → exec .txFrameEnd s =
        .next { s with link := { s.link with replies := rest, sending := some (.reply r) } })
      ∧ (∀ r rest, s.link.replies = [] → s.link.reports = r :: rest → exec .txFrameEnd s =
          .next { s with link := { s.link with reports := rest, sending := some (.report r s.link.lost), lost := false } })
      ∧ (s.link.replies = [] → s.link.reports = [] → exec .txFrameEnd s =
          .next { s with link := { s.link with sending := none } })
      ∧ ∀ r rest t, s.link.replies = r :: rest →
          t = { s with link := { s.link with replies := rest, sending := some (.reply r) } } →
          exec .txFrameEnd s = .next t.service
          ∧ (s.link.received = [] ∨ t.link.serves = false → t.service = t)
          ∧ (∀ f others, s.link.received = f :: others → t.link.serves = true →
              t.service = ({ t with link := { t.link with received := others } }.takeFrame f).service)
          ∧ ∀ (c : Instr) (tag : Byte) (q : Request), c.request = some (tag, q) → q.fits = true → tag ≠ 0 →
              s.link.received = [⟨tag, q.kind, q.body⟩] → t.link.serves = true →
              exec .txFrameEnd s = exec c { t with link := { t.link with received := [] } })
  ∧ (∀ (s : State) (subject : Nat) (record : ReportRecord), s.link.sending.isSome = true →
        (s.link.reports.length < 64 → s.post subject record =
          { s with link := { s.link with reports := s.link.reports ++ [⟨s.book.siteTime, subject, record⟩] } })
        ∧ (64 ≤ s.link.reports.length → s.post subject record = { s with link := { s.link with lost := true } }))
  ∧ (∀ s : State, s.powered = true → s.link.endsPart = true →
        exec .txFrameEnd s = exec .siteResetReset s)
  ∧ (∀ (s : State) (x : Sending), s.powered = true → s.link.sending = some x →
        (∀ k b, x.bytes[k]? = some b → s.tx (10 * k) = false ∧ (∀ j, j < 8 → s.tx (10 * k + 1 + j) = b.getLsbD j)
          ∧ s.tx (10 * k + 9) = true)
        ∧ ∀ k, 10 * x.bytes.length ≤ k → s.tx k = true)
  ∧ (∀ (s : State) (k : Nat), s.powered = true → s.link.sending = none → s.tx k = true)
  ∧ (∀ (x : Result) (tag : Byte) (data : List Byte) (ends : Bool), (Sending.reply ⟨tag, x, data, ends⟩).bytes =
        frameBytes 0x80 tag (codeIn [.ok, .badFrame, .badTag, .unknownKind, .badLength, .outOfRange, .linkBusy, .state,
          .screenActive, .cooling, .noProgram, .cueRange, .countBookFull, .queueFull, .noSuchEntry, .notCancellable,
          .wrongLaneMode, .laneBusy, .gateClosed, .lotFull, .duplicateTag, .unknownCar, .notOnLot, .capacityInUse,
          .keyRequired, .carLimit, .orderingClosed, .itemUnavailable, .stationClosed, .soldOut, .orderTableFull,
          .stationFull, .tooLate, .noSuchOrder] x ++ data))
  ∧ (∀ cause lost, (ReportRecord.start cause lost).sentAs 0x01 (codeIn [.powerOn, .siteReset] cause ++ bit lost ++ [1]))
  ∧ (∀ left entered reason hold bound states,
        states = [.dark, .strikeWait, .striking, .ready, .running, .holding, ScreenState.closing] →
        (ReportRecord.screenState left entered reason hold bound).sentAs 0x02 (codeIn states left ++ codeIn states entered
          ++ codeIn [.strike, .grant, .stop, .struck, .go, .operator, .segmentHold, .pictureLost, .resume, .skip,
              .programEnd, .cooled] reason
          ++ codeIn [.none, .operator, .segmentHold, .pictureLost] hold
          ++ bound.elim [0] fun r => 1 :: bytes1 r.val))
  ∧ (∀ index g, (ReportRecord.segment index g).sentAs 0x03 (bytes1 index
        ++ codeIn [.preshow, .trailers, .feature, .intermission, .closingReel] g.kind ++ bytes3 g.length
        ++ codeIn [.admitAll, .admitLate, .closed] g.gate ++ codeIn [.opened, .lastCall, .closed] g.order
        ++ codeIn [.opened, .urgentOnly, .none] g.announce ++ bit g.holdAtEnd))
  ∧ (∀ (index : Nat) (p : Position) (level : Bool) (entry : Nat),
        (∀ (l : Fin 4) (code : Byte) (action : CueAction),
          (action, code) ∈ [(.pulse l, 0), (.set l, 1), (.clear l, 2), (CueAction.toggle l, (3 : Byte))] →
          (ReportRecord.cue index p action level entry).sentAs 0x04 (bytes1 index ++ bytes1 p.segment ++ bytes3 p.frame
            ++ [code] ++ (1 :: bytes1 l.val) ++ (1 :: bit level) ++ [0, 0, 0]))
        ∧ ∀ clip priority : Nat, (ReportRecord.cue index p (.announce clip priority) level entry).sentAs 0x04
            (bytes1 index ++ bytes1 p.segment ++ bytes3 p.frame ++ [4, 0, 0] ++ (1 :: bytes1 clip) ++ (1 :: bytes1 priority)
              ++ (1 :: bytes2 entry)))
  ∧ (∀ (tag : Nat) (i : Fin 6) (r : Fin 16), (∀ n late capture, (ReportRecord.admitted tag i r n late capture).sentAs 0x05
          (bytes2 tag ++ bytes1 i.val ++ bytes1 r.val ++ bytes1 n ++ bit late
            ++ capture.elim [0] fun p => 1 :: bytes1 p.segment ++ bytes3 p.frame))
        ∧ ∀ reason, (ReportRecord.admissionEnded tag i r reason).sentAs 0x06
          (bytes2 tag ++ bytes1 i.val ++ bytes1 r.val ++ codeIn [.expired, .cancelled, .teardown] reason))
  ∧ (∀ (a : Option Attribution) (counted : Bool) (tag : Option Nat) (fields : List Byte),
        fields = a.elim [0] (fun a => 1 :: bytes1 a.screen.val ++ bytes1 a.record.val ++ bytes2 a.show_) ++ bit counted →
        (ReportRecord.backout a counted tag).sentAs 0x07 (fields ++ tag.elim [0] fun n => 1 :: bytes2 n)
        ∧ (ReportRecord.tailgate a counted).sentAs 0x08 fields)
  ∧ ReportRecord.exit.sentAs 0x09 [] ∧ ReportRecord.wrongWay.sentAs 0x0A []
  ∧ (∀ (r : OnAir) (granted : Byte) (fields : List Byte) (remainder : Bool),
        (∀ k, granted.getLsbD k = r.granted.any fun i => i.val == k) →
        fields = bytes2 r.number ++ codeIn [.call .orderReady, .call .recall, .showNotice, .operator] r.kind
          ++ bytes1 r.priority ++ bytes1 r.clip ++ [granted] ++ (r.tag.elim [0] fun n => 1 :: bytes2 n)
          ++ (r.order.elim [0] fun n => 1 :: bytes2 n) →
        (ReportRecord.onAir r remainder).sentAs 0x0B (fields ++ bit remainder)
        ∧ ∀ outcome, (ReportRecord.playDone r outcome remainder).sentAs 0x0C
            (fields ++ codeIn [.finished, .timeout, .cancelled] outcome ++ bit remainder))
  ∧ (∀ index clip priority p, (ReportRecord.dropped index clip priority p).sentAs 0x0D
        (bytes1 index ++ bytes1 clip ++ bytes1 priority ++ bytes1 p.segment ++ bytes3 p.frame))
  ∧ (∀ (number tag : Nat) (i : Fin 6),
        (∀ taken readyAt entry, (ReportRecord.orderReady number tag i taken readyAt entry).sentAs 0x0E
          (bytes2 number ++ bytes2 tag ++ bytes1 i.val ++ bytes4 taken ++ bytes4 readyAt ++ bytes2 entry))
        ∧ ∀ reason calls left counted, (ReportRecord.orderEnded number tag i reason calls left counted).sentAs 0x0F
          (bytes2 number ++ bytes2 tag ++ bytes1 i.val
            ++ codeIn [.picked, .expired, .cancelled, .orphaned, .orphanDone] reason ++ bytes1 calls ++ bit left
            ++ bit counted))
  ∧ (∀ item condition after low order, (ReportRecord.stock item condition after low order).sentAs 0x10
        (bytes1 item.val ++ codeIn [.low, .soldOut] condition ++ bytes2 after ++ bytes2 low ++ bytes2 order))
  ∧ (∀ condition pathOpen, (ReportRecord.audio condition pathOpen).sentAs 0x11
        (codeIn [.overrun, .underrun] condition ++ codeIn [true, false] pathOpen))
  ∧ (∀ office policy, (ReportRecord.key office policy).sentAs 0x12
        (codeIn [false, true] office ++ codeIn [.free, .keyed] policy))
  ∧ ∀ record show_ openedAt closedAt interrupted,
      (ReportRecord.countClosed record show_ openedAt closedAt interrupted).sentAs 0x13
        (bytes1 record.val ++ bytes2 show_ ++ bytes4 openedAt ++ bytes4 closedAt ++ bit interrupted)

/-- A request whose frame finds 4 good frames waiting is answered LINK_BUSY and has no other effect; with 8 replies
waiting even that is not queued (R186).

A request command that finds the service's condition not holding and fewer than 4 frames waiting joins the receive queue as its
frame (R186, R187).

UNKNOWN_KIND (R187): a frame that fails a check of the service has no effect but its reply, which carries the KIND.

A request command whose list no frame can carry is answered BAD_LENGTH, at once or where it waited (R189; log entry 32). -/
def Obligations.FramesTurnedAway : Prop :=
  (∀ (c : Instr) (tag : Byte) (r : Request) (s : State), c.request = some (tag, r) → s.powered = true →
      4 ≤ s.link.received.length → 4 ≤ s.link.replies.length →
      exec c s = .next (if s.link.replies.length < 8 then s.refused tag .linkBusy [r.kind] else s))
  ∧ (∀ (c : Instr) (tag : Byte) (r : Request) (s : State), c.request = some (tag, r) → s.powered = true →
      s.link.serves = false → s.link.received.length < 4 → exec c s = .next { s with
        link := { s.link with received := s.link.received ++ [⟨tag, r.kind, r.body⟩] } })
  ∧ (∀ (s : State) (tag kind : Byte) (body : List Byte), s.powered = true → s.link.received = [] → s.link.serves = true →
        (tag = 0 → exec (.unknownKind tag kind body) s = .next (s.refused 0 .badTag [kind]))
        ∧ (tag ≠ 0 → decodeRequest kind body = .error .unknownKind →
            exec (.unknownKind tag kind body) s = .next (s.refused tag .unknownKind [kind]))
        ∧ (tag ≠ 0 → decodeRequest kind body = .error .badLength →
            exec (.unknownKind tag kind body) s = .next (s.refused tag .badLength [kind])))
  ∧ ∀ (c : Instr) (tag : Byte) (r : Request) (s : State), c.request = some (tag, r) → r.fits = false →
      (s.takes tag → exec c s = .next (s.refused tag .badLength [r.kind]))
      ∧ (tag ≠ 0 → s.takeFrame ⟨tag, r.kind, r.body⟩ = s.refused tag .badLength [r.kind])

/-- A request that its owning rule refuses changes no state but for its reply (R187), whichever request it is.

A unit number above 5 (screen, channel), 7 (lane), 15 (count record), 127 (item) or 3 (station) is refused with
OUT_OF_RANGE.

The refusal tables of the other requests, each cause after the ones above it (R5, R12, R17 to R19, R27, R73, R74, R92, R97,
R103, R112, R115, R120, R132, R133, R140, R144, R173, R175, R179). GO is in GoStartsTheProgram, STOP in StopAndCooldown and
ORDER in OrderIsTaken. -/
def Obligations.RefusalsChangeNothing : Prop :=
  (∀ (c : Instr) (tag : Byte) (r : Request) (s : State), c.request = some (tag, r) → r.fits = true → s.takes tag →
      (requestEffect r s).2.result ≠ .ok →
      exec c s = .next (s.refused tag (requestEffect r s).2.result (requestEffect r s).2.data))
  ∧ (∀ (s : State) (tag b : Byte), s.takes tag →
        (5 < b.toNat → ∀ c ∈ [Instr.strike tag b, .hold tag b, .resume tag b, .skip tag b, .stop tag b, .getScreen tag b,
            .getChannel tag b], exec c s = .next (s.refused tag .outOfRange []))
        ∧ (7 < b.toNat → ∀ c ∈ [Instr.getLane tag b, .cancelAdmit tag b], exec c s = .next (s.refused tag .outOfRange []))
        ∧ (15 < b.toNat → ∀ c ∈ [Instr.readCount tag b, .releaseCount tag b],
            exec c s = .next (s.refused tag .outOfRange []))
        ∧ (127 < b.toNat → ∀ k x y, exec (.setStock tag b k x y) s = .next (s.refused tag .outOfRange []))
        ∧ (3 < b.toNat → ∀ o x, exec (.setStation tag b o x) s = .next (s.refused tag .outOfRange [])))
  ∧ (∀ (s : State) (tag b : Byte), s.takes tag →
        (5 < b.toNat → (∀ x y ws, ws.length ≤ 127 → s.refuses tag (.loadProgram tag b x y ws) .outOfRange)
          ∧ (∀ ws, ws.length ≤ 113 → s.refuses tag (.loadCues tag b ws) .outOfRange)
          ∧ ∀ x1 x2 x3 x4 x5, s.refuses tag (.setChannel tag b x1 x2 x3 x4 x5) .outOfRange)
        ∧ ∀ i : Fin 6, b.toNat = i.val →
          (s.screens[i].state = .running ∨ s.screens[i].state = .holding →
            (∀ x y ws, ws.length ≤ 127 → s.refuses tag (.loadProgram tag b x y ws) .screenActive)
            ∧ ∀ ws, ws.length ≤ 113 → s.refuses tag (.loadCues tag b ws) .screenActive)
          ∧ (s.screens[i].state ≠ .running → s.screens[i].state ≠ .holding →
            (∀ x y ws, ws.length ≤ 127 → (ws = [] ∨ 32 < ws.length ∨ ∃ w ∈ ws, segment? w = none) →
              s.refuses tag (.loadProgram tag b x y ws) .outOfRange)
            ∧ ∀ ws, ws.length ≤ 113 → (24 < ws.length ∨ ∃ w ∈ ws, cue? w = none) →
              s.refuses tag (.loadCues tag b ws) .outOfRange)
          ∧ (s.screens[i].state = .closing → s.refuses tag (.strike tag b) .cooling)
          ∧ (s.screens[i].state ∉ [ScreenState.dark, .closing] → s.refuses tag (.strike tag b) .state)
          ∧ (s.screens[i].state = .dark → (∀ r : Fin 16, s.book.records[r].state ≠ .free) →
            s.refuses tag (.strike tag b) .countBookFull)
          ∧ (s.screens[i].state ≠ .running → s.screens[i].state ≠ .holding →
            s.refuses tag (.hold tag b) .state ∧ s.refuses tag (.skip tag b) .state)
          ∧ (s.screens[i].state ≠ .holding → s.refuses tag (.resume tag b) .state))
  ∧ (∀ (s : State) (tag b1 b2 b3 : Byte), s.takes tag →
        (b1 = 0 ∨ 3 < b2.toNat ∨ b3 = 0 ∨ 63 < b3.toNat → s.refuses tag (.announce tag b1 b2 b3) .outOfRange)
        ∧ (b1 ≠ 0 → b2.toNat ≤ 3 → b3 ≠ 0 → b3.toNat ≤ 63 → 32 ≤ s.announce.queue.length →
          s.refuses tag (.announce tag b1 b2 b3) .queueFull)
        ∧ ∀ x : Half, (∀ e ∈ s.announce.queue, e.number ≠ x.toNat) →
          ((∀ r, s.announce.onAir = some r → r.number ≠ x.toNat) → s.refuses tag (.cancelAnnounce tag x) .noSuchEntry)
          ∧ ∀ r k, s.announce.onAir = some r → r.number = x.toNat → r.kind = .call k →
            s.refuses tag (.cancelAnnounce tag x) .notCancellable)
  ∧ (∀ (s : State) (tag bl bs bo bm : Byte) (x y z : Half), s.takes tag →
        (7 < bl.toNat ∨ 2 < bm.toNat → s.refuses tag (.setLane tag bl bm y z) .outOfRange)
        ∧ (7 < bl.toNat ∨ 5 < bs.toNat ∨ x = 0 ∨ bo = 0 ∨ 15 < bo.toNat → s.refuses tag (.admitCar tag bl x bs bo) .outOfRange)
        ∧ (∀ i : Fin 8, bl.toNat = i.val → s.lanes[i].pending = none → s.refuses tag (.cancelAdmit tag bl) .noSuchEntry)
        ∧ ∀ (i : Fin 8) (c : Fin 6), bl.toNat = i.val → bs.toNat = c.val → x ≠ 0 → bo ≠ 0 → bo.toNat ≤ 15 →
          (s.lanes[i].mode ≠ .entry → s.refuses tag (.admitCar tag bl x bs bo) .wrongLaneMode)
          ∧ (s.lanes[i].mode = .entry →
            (s.lanes[i].pending ≠ none → s.refuses tag (.admitCar tag bl x bs bo) .laneBusy)
            ∧ (s.lanes[i].pending = none →
              ((s.policies c).gate = .closed → s.refuses tag (.admitCar tag bl x bs bo) .gateClosed)
              ∧ ((s.policies c).gate ≠ .closed →
                ((∃ a ∈ s.cars, a.tag = x.toNat) → s.refuses tag (.admitCar tag bl x bs bo) .duplicateTag)
                ∧ ((∀ a ∈ s.cars, a.tag ≠ x.toNat) → s.site.capacity.get c ≤ s.carCount c →
                  s.refuses tag (.admitCar tag bl x bs bo) .lotFull)))))
  ∧ (∀ (s : State) (tag : Byte) (w : SiteWire) (counts : List Byte), s.takes tag →
        counts = allScreens.flatMap (fun i => putHalf (BitVec.ofNat 16 (s.carCount i))) →
        ((∃ b ∈ w.window.toList, 1 < b.toNat) ∨ w.orderClip = 0 ∨ 255 < w.orderClip.toNat ∨ w.recallClip = 0
            ∨ 255 < w.recallClip.toNat ∨ 2048 < (w.capacity.toList.map fun h => min 500 h.toNat).sum →
          exec (.setSite tag w) s = .next (s.refused tag .outOfRange counts))
        ∧ ((∀ b ∈ w.window.toList, b.toNat ≤ 1) → w.orderClip ≠ 0 → w.orderClip.toNat ≤ 255 → w.recallClip ≠ 0 →
          w.recallClip.toNat ≤ 255 → (w.capacity.toList.map fun h => min 500 h.toNat).sum ≤ 2048 →
          (∃ i : Fin 6, min 500 (w.capacity.get i).toNat < s.carCount i) →
          exec (.setSite tag w) s = .next (s.refused tag .capacityInUse counts)))
  ∧ (∀ (s : State) (tag : Byte) (x y : Half), s.takes tag →
        s.refuses tag (.checkout tag 0) .outOfRange ∧ s.refuses tag (.getCar tag 0) .outOfRange
        ∧ (x ≠ 0 → (∀ a ∈ s.cars, a.tag ≠ x.toNat) →
          s.refuses tag (.checkout tag x) .unknownCar ∧ s.refuses tag (.getCar tag x) .unknownCar)
        ∧ (∀ a, x ≠ 0 → s.findCar x.toNat = some a → a.state = .pending → s.refuses tag (.checkout tag x) .notOnLot)
        ∧ s.refuses tag (.pickup tag 0) .outOfRange ∧ s.refuses tag (.cancelOrder tag 0) .outOfRange
        ∧ (x ≠ 0 → (∀ o ∈ s.orders.table, o.number ≠ x.toNat) →
          s.refuses tag (.pickup tag x) .noSuchOrder ∧ s.refuses tag (.cancelOrder tag x) .noSuchOrder
          ∧ s.refuses tag (.getOrder tag x 0) .noSuchOrder)
        ∧ (∀ o, x ≠ 0 → s.findOrder x.toNat = some o → (o.state = .taken ∨ o.state = .orphaned) →
          s.refuses tag (.pickup tag x) .state)
        ∧ s.refuses tag (.getOrder tag 0 0) .outOfRange
        ∧ (x ≠ 0 → y ≠ 0 → s.refuses tag (.getOrder tag x y) .outOfRange))
  ∧ ∀ (s : State) (tag b k : Byte) (x y : Half), s.takes tag →
      (∀ r : Fin 16, b.toNat = r.val → (s.book.policy = .free ∨ s.key.office = true) → s.book.records[r].state ≠ .closed →
        s.refuses tag (.releaseCount tag b) .state)
      ∧ (1 < b.toNat → s.refuses tag (.setCountPolicy tag b) .outOfRange)
      ∧ (∀ ws, ws.length ≤ 113 → (ws = [] ∨ 128 < b.toNat + ws.length ∨ ∃ w ∈ ws, item? w = none) →
        s.refuses tag (.loadMenu tag b ws) .outOfRange)
      ∧ ((k ≠ 0 ∧ 9999 < x.toNat) ∨ 9999 < y.toNat → s.refuses tag (.setStock tag b k x y) .outOfRange)

/-- IDENTIFY (R193): the bytes of its reply.

The queries GET_STATUS, GET_SCREEN, GET_ANNOUNCE, GET_LANE, GET_CAR, READ_COUNT and GET_ORDER change no state but for
their reply OK, whose data are the fields the model's reply functions list. -/
def Obligations.QueriesChangeNothing : Prop :=
  (∀ (s : State) (tag : Byte), s.takes tag → exec (.identify tag) s =
      .next (s.replied tag ([0x0C, 0x5E, 0x02, 0x60, 1, if s.link.fastBaud then 1 else 0, 6, 8, 4, 2, 32, 24, 32, 8, 0, 16,
        128, 128, 24, 4, 8, 64, 4, 0])))
  ∧ (∀ (s : State) (tag b : Byte), s.takes tag →
        exec (.getStatus tag) s = .next (s.replied tag (getStatusEffect s).2.data)
        ∧ exec (.getAnnounce tag) s = .next (s.replied tag (getAnnounceEffect s).2.data)
        ∧ (∀ i : Fin 6, b.toNat = i.val → exec (.getScreen tag b) s = .next (s.replied tag (s.screenBytes i)))
        ∧ (∀ i : Fin 8, b.toNat = i.val → exec (.getLane tag b) s = .next (s.replied tag (laneBytes s.lanes[i])))
        ∧ (∀ i : Fin 16, b.toNat = i.val → exec (.readCount tag b) s = .next (s.replied tag
            (recordBytes i s.book.records[i] ++ [if s.key.office then 1 else 0] ++ [BitVec.ofNat 8 s.book.policy.code])))
        ∧ (∀ (x : Half) (c : Car), x ≠ 0 → s.findCar x.toNat = some c →
            exec (.getCar tag x) s = .next (s.replied tag (s.carBytes c)))
        ∧ (∀ (x : Half) (o : Order), x ≠ 0 → s.findOrder x.toNat = some o →
            exec (.getOrder tag x 0) s = .next (s.replied tag (orderBytes s.orders o)))
        ∧ ∀ x : Half, x ≠ 0 → exec (.getOrder tag 0 x) s = .next (s.replied tag (getOrderEffect 0 x s).2.data))

/-! ## Power, start and reset -/

/-- SITE_RESET (R195): its reply joins the queue and the service takes no further frame.

The supplies (R135): MAIN_POWER_LOSS leaves the backup domain as it is while VBACKUP holds it, BACKUP_SUPPLY_LOSS while main
power does, and what is left without either is lost. The model's choice (log entry 5): no output is driven without main
power. -/
def Obligations.SiteResetAndSupplyLosses : Prop :=
  (∀ (s : State) (tag : Byte) (l : Link), s.takes tag →
      l = { s.link with resetTaken := true }.postReply ⟨tag, .ok, [], true⟩ →
      exec (.siteReset tag) s = .next { s with link := l } ∧ l.resetTaken = true ∧ l.serves = false)
  ∧ ∀ s : State,
      (s.vbackup = true → exec .mainPowerLoss s = .next { s with powered := false })
      ∧ (s.powered = true → exec .backupSupplyLoss s = .next { s with vbackup := false })
      ∧ (s.vbackup = false → ∃ t : State, exec .mainPowerLoss s = .next t ∧ t.book.valid = false
          ∧ t = { s with powered := false, book := t.book })
      ∧ (s.powered = false → ∃ t : State, exec .backupSupplyLoss s = .next t ∧ t.book.valid = false
          ∧ t = { s with vbackup := false, book := t.book })
      ∧ (s.powered = false → (∀ i : Fin 6, s.lamp i = false ∧ s.douser i = false ∧ s.exciter i = []
          ∧ ∀ l : Fin 4, s.cueLine i l = false) ∧ (∀ i : Fin 8, s.barrier i = false) ∧ ∀ k, s.tx k = false)

/-- A start that finds the backup lost (R135, R137): the rebuilt backup domain, and START with BACKUP_LOST on the line.
StartResetsScreensCuesChannels and StartResetsTheOtherBlocks say what every other block holds.

A start with a valid backup, by POWER_ON or at the end of a SITE_RESET's reply (SITE_RESET_RESET or TX_FRAME_END; R136, R138): FREE and CLOSED records,
show counter, site time and policy are kept, each OPEN record closes with the interrupted mark, and after START a
COUNT_CLOSED report waits for each, in ascending number. The model's choices: POWER_ON of a part that has main power
follows a loss of it (log entry 33), and POWER_ON finds VBACKUP present again (log entry 6). -/
def Obligations.StartOfTheBackupDomain : Prop :=
  (∀ (s : State) (strap : Bool), s.book.valid = false ∨ s.vbackup = false → ∃ t, exec (.powerOn strap) s = .next t
      ∧ (∀ r : Fin 16, t.book.records[r] = ⟨.free, none, none, none, none, false, ⟨0, 0, 0, 0, 0, 0, 0, 0, 0, 0, 0, 0⟩⟩)
      ∧ t.book.showCounter = 1 ∧ t.book.siteTime = 0 ∧ t.book.policy = .keyed ∧ t.book.valid = true ∧ t.vbackup = true
      ∧ t.link.sending = some (.report ⟨0, 0, .start .powerOn true⟩ false) ∧ t.link.reports = [])
  ∧ (∀ (s : State) (c : Instr) (cause : StartCause),
        ((∃ strap, s.restarts c strap) ∧ cause = .siteReset)
          ∨ (∃ strap, c = .powerOn strap ∧ cause = .powerOn ∧ s.book.valid = true ∧ s.vbackup = true) →
        ∃ t, exec c s = .next t
          ∧ (∀ r : Fin 16, t.book.records[r] = if s.book.records[r].state = .opened then
              { s.book.records[r] with state := .closed, closedAt := some s.book.siteTime, interrupted := true }
            else s.book.records[r])
          ∧ t.book.showCounter = s.book.showCounter ∧ t.book.siteTime = s.book.siteTime
          ∧ t.book.secondMs = s.book.secondMs ∧ t.book.policy = s.book.policy ∧ t.book.valid = true
          ∧ t.vbackup = s.vbackup
          ∧ t.link.sending = some (.report ⟨s.book.siteTime, 0, .start cause false⟩ false)
          ∧ t.link.reports = (allRecords.filter fun r => s.book.records[r].state == .opened).map fun r =>
              ⟨s.book.siteTime, (s.book.records[r].screen.getD 0).val,
                .countClosed r (s.book.records[r].show_.getD 0) (s.book.records[r].openedAt.getD 0) s.book.siteTime true⟩)

/-- The screens, the strike arbiter and the cues (R25, R38), and the sound channels (R57), after a start by POWER_ON or at
the end of a SITE_RESET's reply. That notices handed and not yet taken are discarded at a start (`t.notices = []`) is the
model's choice (log entry 37): no rule speaks of them. -/
def Obligations.StartResetsScreensCuesChannels : Prop :=
  (∀ (s : State) (c : Instr) (strap : Bool), s.starts c strap →
      ∃ t, exec c s = .next t ∧ t.powered = true
        ∧ (∀ i : Fin 6, t.screens[i] = ⟨.dark, .none, none, none, false, 45, 120, none, none, none, none⟩
            ∧ t.lamp i = false ∧ t.douser i = false ∧ t.policies i = ⟨.closed, .closed, .opened⟩)
        ∧ t.strikeQueue = [] ∧ t.spacing = none ∧ t.site.spacing = 5 ∧ t.notices = []
        ∧ ∀ i : Fin 6, t.cues[i].table = [] ∧ ∀ l : Fin 4, t.cues[i].levels[l] = false ∧ t.cues[i].timers[l] = none)
  ∧ (∀ (s : State) (c : Instr) (strap : Bool), s.starts c strap →
        ∃ t, exec c s = .next t ∧ ∀ i : Fin 6,
          t.channels[i].delay = 0 ∧ t.channels[i].trim = 16384 ∧ t.channels[i].duckLevel = 4096
          ∧ t.channels[i].rampStep = 64 ∧ t.channels[i].announceGain = 16384 ∧ t.channels[i].input = []
          ∧ (∀ place, Ring.read t.channels[i].ring place = ⟨0, 0⟩) ∧ t.channels[i].writePoint = 0
          ∧ t.channels[i].duckGain = 16384 ∧ t.channels[i].mode = .unity ∧ t.channels[i].feedOpen = false
          ∧ t.channels[i].atLevel = false ∧ t.channels[i].overrun = false ∧ t.channels[i].underrun = false
          ∧ t.channels[i].clip = false ∧ t.channels[i].output = ⟨0, 0⟩ ∧ t.screens[i].featureOpen = false)

/-- The announce path, the lanes, the cars and the site settings (R81, R106, R121), and the kitchen, the order unit and the
link (R159, R180, R197), after a start. The BAUD strap is read at each (R181): POWER_ON carries its level, and the reset of a
SITE_RESET finds it at a free level (the model's choice: log entry 19). -/
def Obligations.StartResetsTheOtherBlocks : Prop :=
  (∀ (s : State) (c : Instr) (strap : Bool), s.starts c strap →
      ∃ t, exec c s = .next t
        ∧ t.announce = ⟨[], none, .idle, none, 1⟩ ∧ t.playWords = s.playWords ++ [⟨0, 0⟩]
        ∧ (∀ i : Fin 8, t.lanes[i] = ⟨.disabled, 200, 60, s.lanes[i].rawA, s.lanes[i].rawB, s.lanes[i].rawA,
            s.lanes[i].rawB, none, none, .none, none, none, false, none⟩)
        ∧ t.cars = [] ∧ (∀ i : Fin 6, t.carCount i = 0)
        ∧ t.site = ⟨5, ⟨0, 0, 0, 0, 0, 0⟩, ⟨0, 0, 0, 1, 1, 1⟩, 1, 2, 180, 2⟩
        ∧ t.key = ⟨s.key.raw, s.key.raw, none⟩)
  ∧ (∀ (s : State) (c : Instr) (strap : Bool), s.starts c strap →
        ∃ t, exec c s = .next t
          ∧ (∀ i : Fin 128, t.kitchen.menu[i] = ⟨0, 0, false, none, 0⟩)
          ∧ (∀ st : Fin 4, t.kitchen.stations[st] =
              ⟨true, 10, [], ⟨s.kitchen.stations[st].bump.raw, s.kitchen.stations[st].bump.raw, none⟩⟩)
          ∧ t.kitchen.clock = 0
          ∧ t.orders.table = [] ∧ t.orders.counter = 1 ∧ t.orders.deferred = []
          ∧ (∀ w : Fin 2, t.orders.ready[w] = [] ∧ t.orders.handed[w] = ⟨s.orders.handed[w].raw, s.orders.handed[w].raw, none⟩)
          ∧ t.link.receiver = .hunting ∧ t.link.gapTimer = none ∧ t.link.received = [] ∧ t.link.replies = []
          ∧ t.link.lost = false ∧ t.link.resetTaken = false ∧ t.link.baud = (if strap then 921600 else 115200)
          ∧ t.link.strap = strap)

/-! ## Screens and cues -/

/-- LAMP, DOUSER and the feature path by screen state (R2), of a part with main power. -/
def Obligations.ScreenStateDrivesItsLines : Prop :=
  ∀ (s : State) (i : Fin 6), s.powered = true →
    (s.lamp i = true ↔ s.screens[i].state ∈ [ScreenState.striking, .ready, .running, .holding])
    ∧ (s.douser i = true ↔ s.screens[i].state = .running)
    ∧ (s.screens[i].featureOpen = true ↔ s.screens[i].state ∈ [ScreenState.ready, .running, .holding])

/-- The effective policies by screen state (the table of R11). -/
def Obligations.EffectivePolicyTable : Prop :=
  ∀ (s : State) (i : Fin 6),
    (∀ p prog g, s.screens[i].state = .running → s.screens[i].position = some p → s.screens[i].program = some prog →
      prog[p.segment]? = some g → s.policies i = ⟨g.gate, g.order, g.announce⟩)
    ∧ (∀ p prog g, s.screens[i].state = .holding → s.screens[i].position = some p → s.screens[i].program = some prog →
      prog[p.segment]? = some g → s.policies i = ⟨g.gate, g.order, .opened⟩)
    ∧ (s.screens[i].state ∈ [ScreenState.strikeWait, .striking, .ready] → s.policies i = ⟨.admitAll, .opened, .opened⟩)
    ∧ (s.screens[i].state ∈ [ScreenState.dark, .closing] → s.policies i = ⟨.closed, .closed, .opened⟩)

/-- LOAD_PROGRAM and LOAD_CUES accepted (R5, R27): outside RUNNING and HOLDING the program with its clamped settings, and
the cue table, are replaced whole.

The reading of a segment record (R4, R5) and of a cue entry (R26, R27), codes counting from 0 in the order of their lists
(R189). -/
def Obligations.LoadsReplaceWhole : Prop :=
  (∀ (s : State) (tag b : Byte) (i : Fin 6), s.takes tag → b.toNat = i.val → s.screens[i].state ≠ .running →
      s.screens[i].state ≠ .holding →
      (∀ (x y : Half) wires prog, 1 ≤ wires.length → wires.length ≤ 32 → readAll segment? wires = some prog →
        exec (.loadProgram tag b x y wires) s =
          .next ({ s with screens := vmod s.screens i fun c =>
              { c with program := some prog, strikeTime := max 5 (min 255 x.toNat), cooldown := max 10 (min 600 y.toNat) } }.replied
            tag ([BitVec.ofNat 8 (max 5 (min 255 x.toNat))] ++ putHalf (BitVec.ofNat 16 (max 10 (min 600 y.toNat))))))
      ∧ ∀ wires table, wires.length ≤ 24 → readAll cue? wires = some table →
        exec (.loadCues tag b wires) s =
          .next ({ s with cues := vmod s.cues i fun u => { u with table := table } }.replied tag
            [BitVec.ofNat 8 wires.length]))
  ∧ (∀ (wires : List SegmentWire) prog, readAll segment? wires = some prog ↔ wires.map segment? = prog.map some)
  ∧ (∀ (wires : List CueWire) table, readAll cue? wires = some table ↔ wires.map cue? = table.map some)
  ∧ (∀ (w : SegmentWire) (g : Segment), segment? w = some g ↔
      [SegmentKind.preshow, .trailers, .feature, .intermission, .closingReel][w.kind.toNat]? = some g.kind
      ∧ [GatePolicy.admitAll, .admitLate, .closed][w.gate.toNat]? = some g.gate
      ∧ [OrderPolicy.opened, .lastCall, .closed][w.order.toNat]? = some g.order
      ∧ [AnnouncePolicy.opened, .urgentOnly, .none][w.announce.toNat]? = some g.announce
      ∧ w.length ≠ 0 ∧ g.length = w.length.toNat ∧ (g.holdAtEnd = true ↔ w.hold ≠ 0))
  ∧ ∀ (w : CueWire) (e : CueEntry), cue? w = some e ↔
      w.segment.toNat ≤ 31 ∧ e.segment = w.segment.toNat ∧ e.offset = w.offset.toNat ∧ (e.report = true ↔ w.report ≠ 0)
      ∧ ((∃ l : Fin 4, w.line.toNat = l.val ∧
            [CueAction.pulse l, .set l, .clear l, .toggle l][w.action.toNat]? = some e.action)
        ∨ (w.action.toNat = 4 ∧ w.clip ≠ 0 ∧ w.priority.toNat ≤ 3
            ∧ e.action = .announce w.clip.toNat w.priority.toNat))

/-- STRIKE accepted (R12, R125): the lowest FREE record opens for the screen with the next show number, the screen joins
the strike queue, and the arbiter examines it (ArbiterGrantsTheHead). -/
def Obligations.StrikeOpensARecordAndQueues : Prop :=
  ∀ (s : State) (tag b : Byte) (i : Fin 6) (r : Fin 16) (n : Nat), s.takes tag → b.toNat = i.val →
    s.screens[i].state = .dark →
    s.book.records[r].state = .free → (∀ q : Fin 16, q < r → s.book.records[q].state ≠ .free) →
    n = s.book.nextShow →
    exec (.strike tag b) s =
      .next ({ s with
          book := { s.book with
            records := vmod s.book.records r fun _ =>
              { CountRecord.freed with
                state := .opened, screen := some i, show_ := some n, openedAt := some s.book.siteTime }
            showCounter := if n ≥ 65535 then 1 else n + 1 }
          screens := vmod s.screens i fun c => { c with state := .strikeWait, bound := some r }
          strikeQueue := s.strikeQueue ++ [i]
          notices := s.notices ++ [Notice.policy i]
          link := s.link.postReport ⟨s.book.siteTime, i.val, .screenState .dark .strikeWait .strike .none (some r)⟩ }.examine.replied
        tag ([BitVec.ofNat 8 r.val] ++ putHalf (BitVec.ofNat 16 n)))

/-- The numbering of R59, R125 and R161: the first number from the counter on, with 1 after 65,535, that is not live. The
next show number (R125) and the next order number (R161) are that number over the shows of the records that are not FREE
and over the live orders.

Counts (R124, R126): a count notice is applied to an OPEN record with the named show, saturating, and dropped
otherwise. -/
def Obligations.CountBookArithmetic : Prop :=
  (∀ (live : List Nat) (n : Nat), 1 ≤ n → n ≤ 65535 → live.length < 65535 →
      pickNumber live live.length n ∉ live
      ∧ ∃ k, k ≤ live.length ∧ pickNumber live live.length n = nextNumber^[k] n ∧ ∀ j < k, nextNumber^[j] n ∈ live)
  ∧ (∀ n, nextNumber n = if 65535 ≤ n then 1 else n + 1)
  ∧ (∀ b : CountBook, 1 ≤ b.showCounter → b.showCounter ≤ 65535 →
      1 ≤ b.nextShow ∧ b.nextShow ≤ 65535
      ∧ (∀ r : Fin 16, b.records[r].state ≠ .free → b.records[r].show_ ≠ some b.nextShow)
      ∧ ∃ k, k ≤ 16 ∧ b.nextShow = nextNumber^[k] b.showCounter
        ∧ ∀ j < k, ∃ r : Fin 16, b.records[r].state ≠ .free ∧ b.records[r].show_ = some (nextNumber^[j] b.showCounter))
  ∧ (∀ u : OrderUnit, 1 ≤ u.counter → u.counter ≤ 65535 → u.table.length ≤ 128 →
      1 ≤ u.nextOrder ∧ u.nextOrder ≤ 65535 ∧ (∀ o ∈ u.table, o.number ≠ u.nextOrder)
      ∧ ∃ k, k ≤ 128 ∧ u.nextOrder = nextNumber^[k] u.counter
        ∧ ∀ j < k, ∃ o ∈ u.table, o.number = nextNumber^[j] u.counter)
  ∧ ((∀ (s : State) (r : Fin 16) (n : Nat) (f : Counts → Counts),
        (s.book.records[r].state = .opened → s.book.records[r].show_ = some n →
          s.count r n f = { s with book := { s.book with records := vmod s.book.records r fun c =>
            { c with counts := f c.counts } } })
        ∧ (s.book.records[r].state ≠ .opened ∨ s.book.records[r].show_ ≠ some n → s.count r n f = s))
      ∧ ∀ (c : Counts) (late : Bool) (k : Nat),
        c.addProgram = { c with programsRun := min 65535 (c.programsRun + 1) }
        ∧ c.addAdmission late k = { c with
            admissions := min 65535 (c.admissions + 1)
            lateAdmissions := min 65535 (c.lateAdmissions + if late then 1 else 0)
            occupants := min 16777215 (c.occupants + k) }
        ∧ c.addAdmissionExpired = { c with admissionsExpired := min 65535 (c.admissionsExpired + 1) }
        ∧ c.addBackout = { c with backouts := min 65535 (c.backouts + 1) }
        ∧ c.addTailgate = { c with tailgates := min 65535 (c.tailgates + 1) }
        ∧ c.addOrder k = { c with
            ordersTaken := min 65535 (c.ordersTaken + 1), unitsSold := min 16777215 (c.unitsSold + k) }
        ∧ c.addPicked = { c with ordersPicked := min 65535 (c.ordersPicked + 1) }
        ∧ c.addExpired = { c with ordersExpired := min 65535 (c.ordersExpired + 1) }
        ∧ c.addCancelled = { c with ordersCancelled := min 65535 (c.ordersCancelled + 1) })

/-- The strike arbiter (R13, R14): the head is granted when no screen is STRIKING and no spacing interval runs, and the
queue is examined at the spacing interval's and at the strike timer's expiry. -/
def Obligations.ArbiterGrantsTheHead : Prop :=
  ∀ s : State,
    (s.strikeQueue = [] → s.examine = s)
    ∧ ((∃ i : Fin 6, s.screens[i].state = .striking) ∨ s.spacing ≠ none → s.examine = s)
    ∧ (∀ i rest, s.strikeQueue = i :: rest → s.screens[i].state = .strikeWait →
        (∀ j : Fin 6, s.screens[j].state ≠ .striking) → s.spacing = none →
        s.examine = { s with
          strikeQueue := rest
          spacing := if s.site.spacing = 0 then none else some (s.site.spacing * 1000)
          screens := vmod s.screens i fun c => { c with state := .striking, strikeTimer := some (c.strikeTime * 1000) }
          link := s.link.postReport
            ⟨s.book.siteTime, i.val, .screenState .strikeWait .striking .grant .none s.screens[i].bound⟩ })
    ∧ (∀ ms, s.powered = true → s.spacing = some ms →
        exec .spacingIntervalExpiry s = .next { s with spacing := none }.examine)
    ∧ ∀ (i : Fin 6) ms, s.powered = true → s.screens[i].state = .striking → s.screens[i].strikeTimer = some ms →
        exec (.strikeTimerExpiry i) s = .next { s with
          screens := vmod s.screens i fun c => { c with state := .ready, strikeTimer := none }
          link := s.link.postReport
            ⟨s.book.siteTime, i.val, .screenState .striking .ready .struck .none s.screens[i].bound⟩ }.examine

/-- GO accepted (R8, R16): the cue check passes (R28), and the screen is RUNNING with its report, programs run counted, then
the start segment with its offset-0 cues and its SEGMENT report, then the policy notice.

GO refused (R16, R28), each cause after the ones above it; the cue check fails where an entry of the table lies outside the
program. -/
def Obligations.GoStartsTheProgram : Prop :=
  (∀ (s : State) (tag b bg ba : Byte) (i : Fin 6) (prog : List Segment) (g : Segment) (r : Fin 16) (n : Nat),
      s.takes tag → b.toNat = i.val → bg.toNat ≤ 31 → s.screens[i].state = .ready → s.screens[i].program = some prog →
      prog[bg.toNat]? = some g →
      (∀ e ∈ s.cues[i].table, ∃ x, prog[e.segment]? = some x ∧ e.offset < x.length) → s.screens[i].bound = some r →
      s.book.records[r].state = .opened → s.book.records[r].show_ = some n →
      ∀ s1 s2 s3 : State,
        s1 = { s with
          screens := vmod s.screens i fun c =>
            { c with state := .running, autoClose := ba != 0, holdReason := .none, frameLossTimer := some 500 }
          link := s.link.postReport ⟨s.book.siteTime, i.val, .screenState .ready .running .go .none (some r)⟩ } →
        s2 = { s1 with book := { s.book with records := vmod s.book.records r fun c =>
            { c with counts := { c.counts with programsRun := min 65535 (c.counts.programsRun + 1) } } } } →
        s3 = ({ s2 with screens := vmod s2.screens i fun c =>
            { c with position := some ⟨bg.toNat, 0⟩ } }.fireAt i ⟨bg.toNat, 0⟩).post i.val (.segment bg.toNat g) →
        exec (.go tag b bg ba) s =
          .next ((if g.gate = .admitAll ∧ g.order = .opened ∧ g.announce = .opened then s3
            else s3.hand (.policy i)).replied tag []))
  ∧ ∀ (s : State) (tag b bg ba : Byte), s.takes tag →
      (5 < b.toNat ∨ 31 < bg.toNat → s.refuses tag (.go tag b bg ba) .outOfRange)
      ∧ ∀ i : Fin 6, b.toNat = i.val → bg.toNat ≤ 31 →
        (s.screens[i].state ≠ .ready → s.refuses tag (.go tag b bg ba) .state)
        ∧ (s.screens[i].state = .ready → s.screens[i].program = none → s.refuses tag (.go tag b bg ba) .noProgram)
        ∧ ∀ prog, s.screens[i].state = .ready → s.screens[i].program = some prog →
          (prog.length ≤ bg.toNat → s.refuses tag (.go tag b bg ba) .outOfRange)
          ∧ (bg.toNat < prog.length →
            (∃ e ∈ s.cues[i].table, ∀ x, prog[e.segment]? = some x → x.length ≤ e.offset) →
            s.refuses tag (.go tag b bg ba) .cueRange)

/-- HOLD (R17) in RUNNING and in HOLDING, and the frame loss of a RUNNING screen (R10).

RESUME of a screen held by OPERATOR or PICTURE_LOST (R18): RUNNING at the held position. -/
def Obligations.HoldFrameLossAndResume : Prop :=
  (∀ (s : State) (tag b : Byte) (i : Fin 6), b.toNat = i.val →
      (s.takes tag → s.screens[i].state = .running → exec (.hold tag b) s =
        .next ({ s with
            screens := vmod s.screens i fun c => { c with state := .holding, holdReason := .operator, frameLossTimer := none }
            notices := if (s.policies i).announce = AnnouncePolicy.opened then s.notices else s.notices ++ [Notice.policy i]
            link := s.link.postReport
              ⟨s.book.siteTime, i.val, .screenState .running .holding .operator .operator s.screens[i].bound⟩ }.replied tag []))
      ∧ (s.takes tag → s.screens[i].state = .holding → exec (.hold tag b) s = .next (s.replied tag []))
      ∧ (∀ ms, s.powered = true → s.screens[i].state = .running → s.screens[i].frameLossTimer = some ms →
          exec (.frameLossExpiry i) s = .next { s with
            screens := vmod s.screens i fun c =>
              { c with state := .holding, holdReason := .pictureLost, frameLossTimer := none }
            notices := if (s.policies i).announce = AnnouncePolicy.opened then s.notices else s.notices ++ [Notice.policy i]
            link := s.link.postReport ⟨s.book.siteTime, i.val,
              .screenState .running .holding .pictureLost .pictureLost s.screens[i].bound⟩ }))
  ∧ (∀ (s : State) (tag b : Byte) (i : Fin 6) (p : Position) (prog : List Segment) (g : Segment), s.takes tag →
        b.toNat = i.val → s.screens[i].state = .holding → s.screens[i].holdReason ≠ .segmentHold →
        s.screens[i].position = some p → s.screens[i].program = some prog → prog[p.segment]? = some g →
        exec (.resume tag b) s =
          .next ({ s with
              screens := vmod s.screens i fun c =>
                { c with state := .running, holdReason := .none, frameLossTimer := some 500 }
              notices := if g.announce = AnnouncePolicy.opened then s.notices else s.notices ++ [Notice.policy i]
              link := s.link.postReport
                ⟨s.book.siteTime, i.val, .screenState .holding .running .resume .none s.screens[i].bound⟩ }.replied tag []))

/-- RESUME of a screen held at end and SKIP of a HOLDING screen, whatever its hold reason, move on alike (R18, R19): the
next segment starts, or after the last the program ends (R9), in READY or with auto-close in CLOSING (R22).

SKIP of a RUNNING screen (R19): with a segment to follow it stays RUNNING, its frame-loss timer restarts, and no
SCREEN_STATE report is sent; in the last segment the program ends. -/
def Obligations.ResumeAndSkipMoveOn : Prop :=
  (∀ (s : State) (tag b : Byte) (i : Fin 6) (p : Position) (prog : List Segment) (c : Instr) (why : StateReason),
      (c = .resume tag b ∧ why = .resume ∧ s.screens[i].holdReason = .segmentHold) ∨ (c = .skip tag b ∧ why = .skip) →
      s.takes tag → b.toNat = i.val → s.screens[i].state = .holding → s.screens[i].position = some p →
      s.screens[i].program = some prog →
      (∀ g g', prog[p.segment]? = some g → prog[p.segment + 1]? = some g' → ∀ s1 : State,
        s1 = ({ s with
            screens := vmod s.screens i fun x => { x with
              state := .running, holdReason := .none, frameLossTimer := some 500, position := some ⟨p.segment + 1, 0⟩ }
            link := s.link.postReport ⟨s.book.siteTime, i.val,
              .screenState .holding .running why .none s.screens[i].bound⟩ }.fireAt i ⟨p.segment + 1, 0⟩).post i.val
          (.segment (p.segment + 1) g') →
        exec c s = .next ((if g'.gate = g.gate ∧ g'.order = g.order ∧ g'.announce = .opened then s1
            else s1.hand (.policy i)).replied tag []))
      ∧ (∀ g, prog[p.segment]? = some g → prog.length ≤ p.segment + 1 → s.screens[i].autoClose = false → ∀ s1 : State,
        s1 = { s with
            screens := vmod s.screens i fun x =>
              { x with state := .ready, holdReason := .none, position := none, frameLossTimer := none }
            link := s.link.postReport ⟨s.book.siteTime, i.val,
              .screenState .holding .ready .programEnd .none s.screens[i].bound⟩ } →
        exec c s = .next ((if g.gate = .admitAll ∧ g.order = .opened then s1 else s1.hand (.policy i)).replied tag []))
      ∧ ∀ g, prog[p.segment]? = some g → prog.length ≤ p.segment + 1 → s.screens[i].autoClose = true → ∀ s1 : State,
        s1 = ({ s with screens := vmod s.screens i fun x => { x with
              state := .closing, holdReason := .none, position := none, strikeTimer := none, frameLossTimer := none
              cooldownTimer := some (x.cooldown * 1000) } }.teardown i).post i.val
            (.screenState .holding .closing .programEnd .none none) →
        exec c s = .next ((if g.gate = .closed ∧ g.order = .closed then s1 else s1.hand (.policy i)).replied tag []))
  ∧ (∀ (s : State) (tag b : Byte) (i : Fin 6) (p : Position) (prog : List Segment) (g : Segment), s.takes tag →
        b.toNat = i.val → s.screens[i].state = .running → s.screens[i].position = some p →
        s.screens[i].program = some prog → prog[p.segment]? = some g →
        (∀ (g' : Segment), prog[p.segment + 1]? = some g' → ∀ s1 : State,
          s1 = ({ s with screens := vmod s.screens i fun x =>
              { x with frameLossTimer := some 500, position := some ⟨p.segment + 1, 0⟩ } }.fireAt i
                ⟨p.segment + 1, 0⟩).post i.val (.segment (p.segment + 1) g') →
          exec (.skip tag b) s =
            .next ((if g'.gate = g.gate ∧ g'.order = g.order ∧ g'.announce = g.announce then s1
              else s1.hand (.policy i)).replied tag []))
        ∧ (prog.length ≤ p.segment + 1 → s.screens[i].autoClose = false → ∀ s1 : State,
          s1 = { s with
              screens := vmod s.screens i fun x =>
                { x with state := .ready, holdReason := .none, position := none, frameLossTimer := none }
              link := s.link.postReport ⟨s.book.siteTime, i.val,
                .screenState .running .ready .programEnd .none s.screens[i].bound⟩ } →
          exec (.skip tag b) s = .next ((if g.gate = .admitAll ∧ g.order = .opened ∧ g.announce = .opened then s1
            else s1.hand (.policy i)).replied tag []))
        ∧ (prog.length ≤ p.segment + 1 → s.screens[i].autoClose = true → ∀ s1 : State,
          s1 = ({ s with screens := vmod s.screens i fun x => { x with
                state := .closing, holdReason := .none, position := none, strikeTimer := none, frameLossTimer := none
                cooldownTimer := some (x.cooldown * 1000) } }.teardown i).post i.val
              (.screenState .running .closing .programEnd .none none) →
          exec (.skip tag b) s = .next ((if g.gate = .closed ∧ g.order = .closed ∧ g.announce = .opened then s1
            else s1.hand (.policy i)).replied tag [])))

/-- STOP (R20 to R22) of a READY, RUNNING, HOLDING or STRIKING screen, which enters CLOSING, and of a screen in
STRIKE_WAIT, which goes to DARK; the teardown (TeardownReleasesTheShow) runs before the report.

COOLDOWN_TIMER_EXPIRY (R22): the CLOSING screen goes DARK, and no policy notice follows. -/
def Obligations.StopAndCooldown : Prop :=
  (∀ (s : State) (tag b : Byte) (i : Fin 6), s.takes tag → b.toNat = i.val →
      (s.screens[i].state ∈ [ScreenState.ready, .running, .holding, .striking] → ∀ s1 s2 : State,
        s1 = ({ s with screens := vmod s.screens i fun c =>
            { c with
              state := .closing, holdReason := .none, position := none, strikeTimer := none, frameLossTimer := none
              cooldownTimer := some (c.cooldown * 1000) } }.teardown i).post i.val
          (.screenState s.screens[i].state .closing .stop .none none) →
        s2 = (if s.policies i = ⟨.closed, .closed, .opened⟩ then s1 else s1.hand (.policy i)) →
        exec (.stop tag b) s =
          .next ((if s.screens[i].state = .striking then s2.examine else s2).replied tag []))
      ∧ (s.screens[i].state = .strikeWait → exec (.stop tag b) s =
        .next ((((({ s with
            strikeQueue := s.strikeQueue.erase i
            screens := vmod s.screens i fun c =>
              { c with state := .dark, holdReason := .none, position := none } }.teardown i).post i.val
          (.screenState .strikeWait .dark .stop .none none)).hand (.policy i))).replied tag []))
      ∧ (s.screens[i].state ∈ [ScreenState.dark, .closing] → exec (.stop tag b) s = .next (s.refused tag .state [])))
  ∧ (∀ (s : State) (i : Fin 6) (ms : Nat), s.powered = true → s.screens[i].state = .closing →
        s.screens[i].cooldownTimer = some ms → exec (.cooldownTimerExpiry i) s =
          .next { s with
            screens := vmod s.screens i fun c => { c with state := .dark, cooldownTimer := none }
            link := s.link.postReport
              ⟨s.book.siteTime, i.val, .screenState .closing .dark .cooled .none s.screens[i].bound⟩ })

/-- The teardown cascade (R21): afterwards no lane holds an admission for the screen, no car record is bound to it, its
count record is closed and unbound, and its cue lines are low with their timers stopped; other screens' admissions and
lines stay. Step 1 queues an ADMISSION_ENDED for each admission in lane order (R98) and step 3 COUNT_CLOSED (R129).

With every car and admission in order (StepKeepsTheGate) and rising order numbers (StepKeepsQueues), step 2 (R118, R176): other
screens' cars stay as they were, and the orders of the swept cars are released, cars in ascending tag and each car's orders in
ascending number. Each TAKEN one becomes ORPHANED in place; each READY or CALLED one leaves the table, its ready list and the
deferred list, or its waiting call the queue with a slot-free notice (R77, R78), and is counted as expired where its record is
OPEN with its show. Each gets its ORDER_ENDED report, between those of steps 1 and 3. The closed record keeps its fields and its
counts apart from those orders expired (R128), and nothing else changes. -/
def Obligations.TeardownReleasesTheShow : Prop :=
  (∀ (s : State) (i : Fin 6),
    (∀ l : Fin 8, (s.teardown i).lanes[l].pending = s.lanes[l].pending.filter (·.screen ≠ i))
    ∧ (∀ c ∈ (s.teardown i).cars, c.screen ≠ i)
    ∧ (s.teardown i).screens[i].bound = none
    ∧ (∀ r, s.screens[i].bound = some r → (s.teardown i).book.records[r].state = .closed
        ∧ (s.teardown i).book.records[r].closedAt = some s.book.siteTime
        ∧ (s.teardown i).book.records[r].interrupted = false
        ∧ ∃ expired, (s.teardown i).book.records[r] = { s.book.records[r] with
            state := .closed, closedAt := some s.book.siteTime, interrupted := false
            counts := { s.book.records[r].counts with ordersExpired := expired } })
    ∧ (∀ l : Fin 4, (s.teardown i).cues[i].levels[l] = false ∧ (s.teardown i).cues[i].timers[l] = none)
    ∧ (s.teardown i).cues[i].table = s.cues[i].table
    ∧ (∀ j : Fin 6, j ≠ i → (s.teardown i).cues[j] = s.cues[j] ∧ (s.teardown i).screens[j] = s.screens[j])
    ∧ (s.cancelAdmissions i).link = (List.finRange 8).foldl (fun (k : Link) l =>
        match s.lanes[l].pending with
        | some p => if p.screen = i then
            k.postReport ⟨s.book.siteTime, l.val, .admissionEnded p.tag p.screen p.record .teardown⟩ else k
        | none => k) s.link
    ∧ ∀ r n t, s.screens[i].bound = some r → s.book.records[r].screen = some i → s.book.records[r].show_ = some n →
        s.book.records[r].openedAt = some t → (s.teardown i).link = ((s.cancelAdmissions i).sweep i).link.postReport
          ⟨s.book.siteTime, i.val, .countClosed r n t s.book.siteTime false⟩)
  ∧ ∀ (s : State) (i : Fin 6) (swept : List Nat) (own served : List Order) (t : State),
      carsRise s.cars → s.admissionsOk → ordersRise s.orders.table →
      swept = (s.cars.filter fun c => c.screen = i ∧ c.state = .onLot).map (·.tag) →
      own = (swept.flatMap fun n => s.orders.table.filter fun o => o.tag = n ∧ o.state ≠ .orphaned) →
      served = own.filter (fun o => o.state = .ready ∨ o.state = .called) → t = s.teardown i →
      t = { s with
        cars := s.cars.filter (·.screen ≠ i)
        orders := { s.orders with
          table := (s.orders.table.filter fun o => o.tag ∉ swept ∨ o.state = .taken ∨ o.state = .orphaned).map fun o =>
            if o.tag ∈ swept ∧ o.state = .taken then { o with state := .orphaned } else o
          ready := t.orders.ready
          deferred := s.orders.deferred.filter fun d => ∀ o ∈ served, o.deferredMark = true → o.number ≠ d.order }
        announce := { s.announce with
          queue := (served.filter fun o => o.deferredMark = false).foldl (fun (q : List Entry) o => q.eraseP fun e =>
            (e.kind == .call .orderReady || e.kind == .call .recall) && e.order == some o.number) s.announce.queue }
        notices := s.notices ++ List.replicate (s.announce.queue.length - t.announce.queue.length) Notice.slotFree
        book := { s.book with records := t.book.records }
        lanes := s.lanes.map fun l =>
          if l.pending.any (·.screen = i) then { l with admTimer := none, pending := none, barrierUp := false } else l
        screens := t.screens, cues := t.cues, link := t.link }
      ∧ t.screens[i] = { s.screens[i] with bound := none }
      ∧ (∀ w : Fin 2, t.orders.ready[w] = served.foldl (fun (l : List Nat) o =>
          if o.window = w then l.erase o.number else l) s.orders.ready[w])
      ∧ ((s.cancelAdmissions i).sweep i).link = own.foldl (fun (k : Link) o => k.postReport ⟨s.book.siteTime, o.window.val,
          if o.state = .taken then .orderEnded o.number o.tag o.screen .orphaned o.calls false false
          else .orderEnded o.number o.tag o.screen .expired o.calls true (decide
            (s.book.records[o.record].state = .opened ∧ s.book.records[o.record].show_ = some o.show_))⟩)
          (s.cancelAdmissions i).link
      ∧ (s.screens[i].bound = none → t.link = ((s.cancelAdmissions i).sweep i).link)
      ∧ ∀ (r : Fin 16) (n : Nat) (c : CountRecord), s.book.records[r].counts.ordersExpired ≤ 65535 →
        n = (served.filter fun o => o.record = r ∧ s.book.records[r].state = .opened
          ∧ s.book.records[r].show_ = some o.show_).length →
        c = { s.book.records[r] with counts := { s.book.records[r].counts with
          ordersExpired := min 65535 (s.book.records[r].counts.ordersExpired + n) } } →
        t.book.records[r] = if s.screens[i].bound = some r then
          { c with state := .closed, closedAt := some s.book.siteTime, interrupted := false } else c

/-- FRAME_PULSE (R6): in RUNNING the frame is counted and handed to the cue unit; in every other state nothing changes.

The pulse that ends a segment (R7 to R9): a hold at its end, the next segment, or the program end in READY or, with
auto-close, in CLOSING (R22). -/
def Obligations.FramePulses : Prop :=
  (∀ (s : State) (i : Fin 6), s.powered = true →
      (s.screens[i].state ≠ .running → exec (.framePulse i) s = .next s)
      ∧ ∀ p prog g, s.screens[i].state = .running → s.screens[i].position = some p → s.screens[i].program = some prog →
        prog[p.segment]? = some g → p.frame + 1 ≠ g.length → exec (.framePulse i) s =
          .next ({ s with screens := vmod s.screens i fun c => { c with
            position := some ⟨p.segment, p.frame + 1⟩, frameLossTimer := some 500 } }.fireAt i ⟨p.segment, p.frame + 1⟩))
  ∧ (∀ (s s1 : State) (i : Fin 6) (p : Position) (prog : List Segment) (g : Segment), s.powered = true →
        s.screens[i].state = .running → s.screens[i].position = some p → s.screens[i].program = some prog →
        prog[p.segment]? = some g → p.frame + 1 = g.length →
        s1 = { s with screens := vmod s.screens i fun c => { c with
          position := some ⟨p.segment, g.length⟩, frameLossTimer := some 500 } }.fireAt i ⟨p.segment, g.length⟩ →
        (g.holdAtEnd = true → ∀ t : State,
          t = { s1 with screens := vmod s1.screens i fun c =>
              { c with state := .holding, holdReason := .segmentHold, frameLossTimer := none } }.post i.val
            (.screenState .running .holding .segmentHold .segmentHold s.screens[i].bound) →
          exec (.framePulse i) s = .next (if g.announce = .opened then t else t.hand (.policy i)))
        ∧ (∀ g', g.holdAtEnd = false → prog[p.segment + 1]? = some g' → ∀ t : State,
          t = ({ s1 with screens := vmod s1.screens i fun c =>
              { c with position := some ⟨p.segment + 1, 0⟩ } }.fireAt i ⟨p.segment + 1, 0⟩).post i.val
            (.segment (p.segment + 1) g') →
          exec (.framePulse i) s =
            .next (if g'.gate = g.gate ∧ g'.order = g.order ∧ g'.announce = g.announce then t else t.hand (.policy i)))
        ∧ (g.holdAtEnd = false → prog.length ≤ p.segment + 1 → s.screens[i].autoClose = false → ∀ t : State,
          t = { s1 with screens := vmod s1.screens i fun c =>
              { c with state := .ready, holdReason := .none, position := none, frameLossTimer := none } }.post i.val
            (.screenState .running .ready .programEnd .none s.screens[i].bound) →
          exec (.framePulse i) s = .next (if g.gate = .admitAll ∧ g.order = .opened ∧ g.announce = .opened then t
              else t.hand (.policy i)))
        ∧ (g.holdAtEnd = false → prog.length ≤ p.segment + 1 → s.screens[i].autoClose = true → ∀ t : State,
          t = ({ s1 with screens := vmod s1.screens i fun c => { c with
                state := .closing, holdReason := .none, position := none, strikeTimer := none, frameLossTimer := none
                cooldownTimer := some (c.cooldown * 1000) } }.teardown i).post i.val
              (.screenState .running .closing .programEnd .none none) →
          exec (.framePulse i) s = .next (if g.gate = .closed ∧ g.order = .closed ∧ g.announce = .opened then t
              else t.hand (.policy i))))

/-- Cue line actions and pulses (R32, R33, R36): what a fired line action leaves on its line, its CUE report, and
PULSE_TIMER_EXPIRY.

An ANNOUNCE cue that finds 32 entries waiting is dropped with its report (R35); otherwise its show notice is
enqueued for the screen alone, and in IDLE the grant runs. Its CUE report carries the entry's number, or 0.

The entries at a position fire in table order (R29, R30), and no other does. -/
def Obligations.CueActions : Prop :=
  (∀ (s : State) (i : Fin 6) (l : Fin 4) (index : Nat) (e : CueEntry) (level : Bool) (timer : Timer),
      ((e.action = .pulse l ∧ level = true ∧ timer = some 250) ∨ (e.action = .set l ∧ level = true ∧ timer = none)
        ∨ (e.action = .clear l ∧ level = false ∧ timer = none)
        ∨ (e.action = .toggle l ∧ level = (!s.cues[i].levels[l]) ∧ timer = none) →
        s.fire i index e = { s with
          cues := vmod s.cues i fun u => { u with
            levels := vmod u.levels l fun _ => level, timers := vmod u.timers l fun _ => timer }
          link := if e.report then
            s.link.postReport ⟨s.book.siteTime, i.val, .cue index ⟨e.segment, e.offset⟩ e.action level 0⟩ else s.link })
      ∧ ∀ ms, s.powered = true → s.cues[i].timers[l] = some ms → exec (.pulseTimerExpiry i l) s =
          .next { s with cues := vmod s.cues i fun u => { u with
            levels := vmod u.levels l fun _ => false, timers := vmod u.timers l fun _ => none } })
  ∧ (∀ (s t : State) (i : Fin 6) (index clip priority n : Nat) (e : CueEntry), e.action = .announce clip priority →
        (32 ≤ s.announce.queue.length → n = 0 → t = s.post i.val (.dropped index clip priority ⟨e.segment, e.offset⟩) →
          s.fire i index e =
            if e.report then t.post i.val (.cue index ⟨e.segment, e.offset⟩ e.action false n) else t)
        ∧ ∀ u : State, s.announce.queue.length < 32 →
          n = pickNumber s.announce.liveNumbers s.announce.liveNumbers.length s.announce.nextEntry →
          u = { s with announce := { s.announce with
            queue := s.announce.queue ++ [⟨n, .showNotice, priority, [i], clip, none, none⟩], nextEntry := nextNumber n } } →
          t = (if s.announce.state = .idle then u.grant else u) →
          s.fire i index e =
            if e.report then t.post i.val (.cue index ⟨e.segment, e.offset⟩ e.action false n) else t)
  ∧ ∀ (s : State) (i : Fin 6) (p : Position), s.fireAt i p =
      (List.range s.cues[i].table.length).foldl (fun (t : State) k =>
        match s.cues[i].table[k]? with
        | some e => if e.segment = p.segment ∧ e.offset = p.frame then t.fire i k e else t
        | none => t) s

/-! ## Sound -/

/-- The mix (R49 to R51) in exact arithmetic: the two terms, their bounds, the saturated sum and the clip flag. -/
def Obligations.MixArithmetic : Prop :=
  (∀ (f : Half) (trim gain : Nat), featureTerm true f trim gain =
      ⌊((f.toInt * trim * gain + 2 ^ 27 : Int) : ℚ) / 2 ^ 28⌋)
  ∧ (∀ (f : Half) (trim gain : Nat), trim ≤ 32767 → gain ≤ 16384 →
      -65534 ≤ featureTerm true f trim gain ∧ featureTerm true f trim gain ≤ 65534)
  ∧ (∀ f : Half, featureTerm true f 16384 16384 = f.toInt)
  ∧ (∀ (f : Half) (trim gain : Nat), featureTerm false f trim gain = 0)
  ∧ (∀ (a : Half) (gain : Nat), announceTerm true a gain = ⌊((a.toInt * gain + 2 ^ 13 : Int) : ℚ) / 2 ^ 14⌋)
  ∧ (∀ (a : Half) (gain : Nat), gain ≤ 32767 → -65534 ≤ announceTerm true a gain ∧ announceTerm true a gain ≤ 65534)
  ∧ (∀ a : Half, announceTerm true a 16384 = a.toInt) ∧ (∀ (a : Half) (gain : Nat), announceTerm false a gain = 0)
  ∧ announceTerm true 5 8192 = 3 ∧ announceTerm true (-5) 8192 = -2
  ∧ ∀ (c : Channel) (pathOpen : Bool) (a : Half) (f : Frame),
      (c.afterMix pathOpen a f).output.left.toInt = max (-32768) (min 32767
        (featureTerm pathOpen f.left c.trim c.duckGain + announceTerm c.feedOpen a c.announceGain))
      ∧ (c.afterMix pathOpen a f).output.right.toInt = max (-32768) (min 32767
        (featureTerm pathOpen f.right c.trim c.duckGain + announceTerm c.feedOpen a c.announceGain))
      ∧ ((c.afterMix pathOpen a f).clip = true ↔ c.clip = true
        ∨ (c.afterMix pathOpen a f).output.left.toInt
            ≠ featureTerm pathOpen f.left c.trim c.duckGain + announceTerm c.feedOpen a c.announceGain
        ∨ (c.afterMix pathOpen a f).output.right.toInt
            ≠ featureTerm pathOpen f.right c.trim c.duckGain + announceTerm c.feedOpen a c.announceGain)

/-- The ramp (R53): where `n` ticks take the duck gain, down to a duck level and back up, so that a ramp takes the
distance divided by the step, rounded up. -/
def Obligations.DuckRamp : Prop :=
  ∀ step n : Nat, 1 ≤ step →
    (∀ gain target, target ≤ gain → (fun d => rampStep d target step)^[n] gain = max target (gain - n * step))
    ∧ (∀ gain target, gain ≤ target → (fun d => rampStep d target step)^[n] gain = min target (gain + n * step))
    ∧ ∀ level, level ≤ 16384 →
      ((fun d => rampStep d level step)^[n] 16384 = level ↔ (16384 - level + step - 1) / step ≤ n)

/-- SITE_SAMPLE_TICK (R40, R42, R44, R53, R54): one whole tick of one channel.

The exciter output port (R56): the output frame, left word first, each word most significant bit first. -/
def Obligations.SampleTick : Prop :=
  (∀ (s : State) (i : Fin 6) (a other : Half) (c : Channel) (d : Nat) (ring : List (Nat × Frame)) (t : Channel),
    s.powered = true → c = s.channels[i] →
    d = Sys2Proof.Machine.rampStep c.duckGain (if c.mode = DuckMode.level then c.duckLevel else 16384) c.rampStep →
    ring = Ring.write c.ring c.writePoint (c.input.head?.getD ⟨0, 0⟩) →
    t = { c with
          input := c.input.tail, ring := ring, writePoint := (c.writePoint + 1) % 2048, duckGain := d
          atLevel := c.mode == DuckMode.level && d == c.duckLevel, underrun := c.underrun || c.input.isEmpty }.afterMix
        s.screens[i].featureOpen a (Ring.read ring ((c.writePoint + 2048 - c.delay) % 2048)) →
    exec (.siteSampleTick i a other) s = .next { s with
      channels := vmod s.channels i fun _ => t
      notices := if c.mode = DuckMode.level ∧ d = c.duckLevel ∧ c.atLevel = false then s.notices ++ [Notice.atLevel i] else s.notices
      link := if c.input = [] ∧ c.underrun = false then
        s.link.postReport ⟨s.book.siteTime, i.val, .audio .underrun s.screens[i].featureOpen⟩ else s.link })
  ∧ ∀ (s : State) (i : Fin 6), s.powered = true → (s.exciter i).length = 32 ∧ ∀ k, k < 16 →
      (s.exciter i)[k]? = some (s.channels[i].output.left.getLsbD (15 - k))
      ∧ (s.exciter i)[16 + k]? = some (s.channels[i].output.right.getLsbD (15 - k))

/-- The delay line (R44): the delayed frame of a tick is the frame that was written `delay` ticks earlier. -/
def Obligations.DelayLineDelays : Prop :=
  ∀ (c : Channel) (f : Frame) (later : List Frame), Ring.wf c.ring = true → c.writePoint < 2048 → c.delay ≤ 2047 →
    later.length = c.delay → ∀ t, t = later.foldl Channel.afterWrite (c.afterWrite f) →
    t.delayed ((t.writePoint + 2047) % 2048) = f

/-- FEATURE_FRAME_ARRIVAL (R41): the frame joins the queue, or at 8 frames is discarded with the overrun flag, which sends
one AUDIO report.

SET_CHANNEL and GET_CHANNEL (R46, R47): five clamped settings with the at-level indication brought up to date; and
the three flags cleared after the reply is made up. -/
def Obligations.FeatureFramesAndChannelRequests : Prop :=
  (∀ (s : State) (i : Fin 6) (l r : Half), s.powered = true →
      (s.channels[i].input.length < 8 → exec (.featureFrameArrival i l r) s =
        .next { s with channels := vmod s.channels i fun c => { c with input := c.input ++ [⟨l, r⟩] } })
      ∧ (8 ≤ s.channels[i].input.length → exec (.featureFrameArrival i l r) s =
        .next { s with
          channels := vmod s.channels i fun c => { c with overrun := true }
          link := if s.channels[i].overrun then s.link else
            s.link.postReport ⟨s.book.siteTime, i.val, .audio .overrun s.screens[i].featureOpen⟩ }))
  ∧ (∀ (s : State) (tag b : Byte) (i : Fin 6), s.takes tag → b.toNat = i.val →
        (∀ (x1 x2 x3 x4 x5 : Half) (t : Channel),
          t = { s.channels[i] with
            delay := min 2047 x1.toNat, trim := min 32767 x2.toNat, duckLevel := min 16384 x3.toNat
            rampStep := max 1 (min 1024 x4.toNat), announceGain := min 32767 x5.toNat
            atLevel := s.channels[i].mode == .level && s.channels[i].duckGain == min 16384 x3.toNat } →
          exec (.setChannel tag b x1 x2 x3 x4 x5) s = .next ({ s with
              channels := vmod s.channels i fun _ => t
              notices := if t.atLevel = true ∧ s.channels[i].atLevel = false then s.notices ++ [Notice.atLevel i]
                else s.notices }.replied tag
            (putHalf (BitVec.ofNat 16 t.delay) ++ putHalf (BitVec.ofNat 16 t.trim) ++ putHalf (BitVec.ofNat 16 t.duckLevel)
              ++ putHalf (BitVec.ofNat 16 t.rampStep) ++ putHalf (BitVec.ofNat 16 t.announceGain))))
        ∧ exec (.getChannel tag b) s = .next ({ s with channels := vmod s.channels i fun c =>
            { c with overrun := false, underrun := false, clip := false } }.replied tag
          (channelBytes s.channels[i] s.screens[i].featureOpen)))

/-! ## The announce path -/

/-- ANNOUNCE accepted (R59, R60, R73): the entry joins the tail with the next number; in IDLE the grant then runs. -/
def Obligations.AnnounceEnqueues : Prop :=
  ∀ (s t : State) (tag b1 b2 b3 : Byte) (n : Nat), s.takes tag → b1 ≠ 0 → b2.toNat ≤ 3 → b3 ≠ 0 → b3.toNat ≤ 63 →
    s.announce.queue.length < 32 →
    n = pickNumber s.announce.liveNumbers s.announce.liveNumbers.length s.announce.nextEntry →
    t = { s with announce := { s.announce with
      queue := s.announce.queue ++
        [⟨n, .operator, b2.toNat, allScreens.filter fun i => b3.getLsbD i.val, b1.toNat, none, none⟩]
      nextEntry := nextNumber n } } →
    exec (.announce tag b1 b2 b3) s =
      .next ((if s.announce.state = .idle then t.grant else t).replied tag (putHalf (BitVec.ofNat 16 n)))

/-- The grant's choice (R64): of the eligible entries one of the highest priority, and of those the earliest.

The grant (R62 to R65) of an IDLE path: the entry's eligible targets go on air and the rest of its targets stay in its
place. Where every granted channel is at its level the path enters PLAYING at once (R65, R67), and else DUCKING. A whole
entry that leaves frees its place, with a slot-free notice (R78); a channel that is found at its level hands its at-level
notice (R54). -/
def Obligations.TheGrant : Prop :=
  (∀ (ok : Entry → Bool) (queue : List Entry) (place : Nat) (e : Entry),
      bestEntry ok queue = some (place, e) ↔ queue[place]? = some e ∧ ok e = true
        ∧ ∀ j x, queue[j]? = some x → ok x = true → x.priority < e.priority ∨ (x.priority = e.priority ∧ place ≤ j))
  ∧ (∀ (s : State) (e : Entry) (i : Fin 6), i ∈ s.eligible e ↔ i ∈ e.targets
        ∧ ((s.policies i).announce = .opened ∨ ((s.policies i).announce = .urgentOnly ∧ e.priority = 3)))
  ∧ (∀ s : State, s.announce.state ≠ .idle ∨ (∀ e ∈ s.announce.queue, s.eligible e = []) → s.grant = s)
  ∧ (∀ (s : State) (place : Nat) (e : Entry) (r : OnAir) (queue : List Entry) (channels : Vector Channel 6)
        (whole atLevel : Bool), s.announce.state = .idle →
        bestEntry (fun x => !(s.eligible x).isEmpty) s.announce.queue = some (place, e) →
        (whole = true ↔ ∀ i ∈ e.targets, i ∈ s.eligible e) →
        (atLevel = true ↔ ∀ i ∈ s.eligible e, s.channels[i].duckGain = s.channels[i].duckLevel) →
        r = ⟨e.number, e.kind, e.priority, s.eligible e, e.clip, e.tag, e.order⟩ →
        queue = (if whole then s.announce.queue.eraseIdx place
          else s.announce.queue.set place { e with targets := e.targets.filter fun i => !(s.eligible e).contains i }) →
        (∀ i : Fin 6, channels[i] = if i ∈ s.eligible e then { s.channels[i] with
            mode := .level, atLevel := s.channels[i].duckGain == s.channels[i].duckLevel
            feedOpen := atLevel || s.channels[i].feedOpen } else s.channels[i]) →
        ∃ reached : List Notice,
          s.grant = { s with
            announce := { s.announce with
              queue := queue, onAir := some r, state := if atLevel then .playing else .ducking
              timer := if atLevel then some 60000 else s.announce.timer }
            channels := channels
            playWords := if atLevel then s.playWords ++ [⟨e.clip, e.tag.getD 0⟩] else s.playWords
            link := if atLevel then s.link.postReport ⟨s.book.siteTime, ((s.eligible e).map (fun j => j.val)).headD 0,
              .onAir r (queue.any (·.number == e.number))⟩ else s.link
            notices := s.notices ++ reached ++ if whole then [Notice.slotFree] else [] }
          ∧ ∀ x, x ∈ reached ↔ ∃ i ∈ s.eligible e, x = .atLevel i ∧ s.channels[i].duckGain = s.channels[i].duckLevel
            ∧ s.channels[i].atLevel = false)

/-- AT_LEVEL_NOTICE (R67, R68) in each path state: with every granted channel at level the path enters PLAYING, the feeds
open, the PLAY word is sent, the player timer starts and ANNOUNCE_ON_AIR is queued; otherwise nothing but the notice goes. -/
def Obligations.PlayingStartsAtLevel : Prop :=
  ∀ (s : State) (i : Fin 6), s.powered = true →
    (s.announce.state ≠ .ducking → exec (.atLevelNotice i) s =
      .next { s with notices := s.notices.erase (.atLevel i) })
    ∧ ∀ r, s.announce.state = .ducking → s.announce.onAir = some r →
      ((∃ j ∈ r.granted, s.channels[j].atLevel = false) → exec (.atLevelNotice i) s =
        .next { s with notices := s.notices.erase (.atLevel i) })
      ∧ ((∀ j ∈ r.granted, s.channels[j].atLevel = true) → exec (.atLevelNotice i) s =
        .next { s with
          notices := s.notices.erase (.atLevel i)
          announce := { s.announce with state := .playing, timer := some 60000 }
          channels := r.granted.foldl (fun v j => vmod v j fun c => { c with feedOpen := true }) s.channels
          playWords := s.playWords ++ [⟨r.clip, r.tag.getD 0⟩]
          link := s.link.postReport
            ⟨s.book.siteTime, (r.granted.map (fun j => j.val)).headD 0, .onAir r (s.announce.queue.any (·.number == r.number))⟩ })

/-- The end of a play by DONE or by the player timer (R69 to R71): the report, the call-played notice of an order call,
the emptied slot, the released channels, and then the grant; the timer's expiry sends the STOP word first. The report's
remainder mark is that of the queue which the grant leaves, since a report records the state at the end of its event (R190):
log entry 34 reads R71's first step so. -/
def Obligations.EndOfPlay : Prop :=
  ∀ (s : State) (r : OnAir) (ms : Nat), s.powered = true → s.announce.state = .playing → s.announce.onAir = some r →
    s.announce.timer = some ms →
    ∀ (c : Instr) (outcome : PlayOutcome) (s1 : State),
      (c = .done true ∧ outcome = .finished ∧ s.doneLine = false ∧ s1 = { s with doneLine := true })
        ∨ (c = .playerTimerExpiry ∧ outcome = .timeout ∧ s1 = { s with playWords := s.playWords ++ [⟨0, 0⟩] }) →
      ∀ (s2 : State) (remainder : Bool),
        s2 = { s1 with
          announce := { s.announce with onAir := none, state := .idle, timer := none }
          notices := s.notices ++ (match r.kind, r.order with
            | .call k, some n => [Notice.callPlayed n r.number k outcome]
            | _, _ => [])
          channels := r.granted.foldl (fun v j => vmod v j fun c =>
            { c with mode := .unity, feedOpen := false, atLevel := false }) s.channels } →
        remainder = s2.grant.announce.queue.any (·.number == r.number) →
        exec c s = .next { s2 with
          link := s.link.postReport
            ⟨s.book.siteTime, (r.granted.map (fun j : Fin 6 => j.val)).headD 0, .playDone r outcome remainder⟩ }.grant

/-- DONE that is not a rise, or comes in IDLE or DUCKING, moves the line alone (R69); POLICY_NOTICE runs the grant in IDLE
and otherwise only leaves its place (R72).

CANCEL_ANNOUNCE (R74, R75): a waiting entry of the host or a cue leaves with a slot-free notice; an on-air one is ended,
with the STOP word in PLAYING; of a split entry both parts go in the one request; an order's call is refused. The model's
choices: the reply's two indications are flags, set 1 and clear 0 (log entry 35), and the remainder mark is that of the queue
which the grant leaves (log entry 34). -/
def Obligations.DonePolicyNoticeAndCancel : Prop :=
  (∀ s : State,
      (∀ level, s.announce.state ≠ .playing ∨ level = false ∨ s.doneLine = true →
        exec (.done level) s = .next { s with doneLine := level })
      ∧ (∀ i : Fin 6, s.powered = true → s.announce.state ≠ .idle →
        exec (.policyNotice i) s = .next { s with notices := s.notices.erase (.policy i) })
      ∧ ∀ i : Fin 6, s.powered = true → s.announce.state = .idle →
        exec (.policyNotice i) s = .next { s with notices := s.notices.erase (.policy i) }.grant)
  ∧ (∀ (s : State) (tag : Byte) (x : Half), s.takes tag →
        (∀ e, s.announce.queue.find? (·.number == x.toNat) = some e → (e.kind = .operator ∨ e.kind = .showNotice) →
          (∀ r, s.announce.onAir = some r → r.number ≠ x.toNat) → exec (.cancelAnnounce tag x) s =
            .next ({ s with
                announce := { s.announce with queue := s.announce.queue.eraseP (·.number == x.toNat) }
                notices := s.notices ++ [Notice.slotFree] }.replied tag [1, 0]))
        ∧ (∀ r : OnAir, s.announce.onAir = some r → r.number = x.toNat → (r.kind = .operator ∨ r.kind = .showNotice) →
            (∀ e ∈ s.announce.queue, e.number ≠ x.toNat) → ∀ t : State,
              t = { s with
                announce := { s.announce with onAir := none, state := .idle, timer := none }
                playWords := if s.announce.state = .playing then s.playWords ++ [⟨0, 0⟩] else s.playWords
                link := s.link.postReport
                  ⟨s.book.siteTime, (r.granted.map (fun j => j.val)).headD 0, .playDone r .cancelled false⟩
                channels := r.granted.foldl (fun v j => vmod v j fun c =>
                  { c with mode := .unity, feedOpen := false, atLevel := false }) s.channels } →
              exec (.cancelAnnounce tag x) s = .next (t.grant.replied tag [0, 1]))
        ∧ (∀ (e : Entry) (r : OnAir) (t : State) (remainder : Bool),
            s.announce.queue.find? (·.number == x.toNat) = some e → (e.kind = .operator ∨ e.kind = .showNotice) →
            s.announce.onAir = some r → r.number = x.toNat →
            t = { s with
              announce := { s.announce with
                queue := s.announce.queue.eraseP (·.number == x.toNat), onAir := none, state := .idle, timer := none }
              playWords := if s.announce.state = .playing then s.playWords ++ [⟨0, 0⟩] else s.playWords
              channels := r.granted.foldl (fun v j => vmod v j fun c =>
                { c with mode := .unity, feedOpen := false, atLevel := false }) s.channels } →
            remainder = t.grant.announce.queue.any (·.number == x.toNat) →
            exec (.cancelAnnounce tag x) s = .next (({ t with
              link := s.link.postReport ⟨s.book.siteTime, (r.granted.map (fun j : Fin 6 => j.val)).headD 0,
                .playDone r .cancelled remainder⟩ }.grant.hand .slotFree).replied tag [1, 1]))
        ∧ (∀ e k, s.announce.queue.find? (·.number == x.toNat) = some e → e.kind = .call k →
            exec (.cancelAnnounce tag x) s = .next (s.refused tag .notCancellable [])))

/-! ## Lanes and cars -/

/-- LOOP_RAW_CHANGE (R84) of a loop to the other level: the raw level moves and the debounce timer starts or stops.

LOOP_DEBOUNCE_EXPIRY (R84, R90, R91, R101, R102): a change without a passage; the EXIT and WRONG_WAY reports; a
TAILGATE and a BACKOUT, counted where R100 counts them. -/
def Obligations.LoopEvents : Prop :=
  (∀ (s : State) (i : Fin 8), s.powered = true →
      exec (.loopRawChange i .a (!s.lanes[i].rawA)) s = .next { s with lanes := vmod s.lanes i fun l => { l with
        rawA := !l.rawA, timerA := if (!l.rawA) = l.debA then none else some l.debounce } }
      ∧ exec (.loopRawChange i .b (!s.lanes[i].rawB)) s = .next { s with lanes := vmod s.lanes i fun l => { l with
        rawB := !l.rawB, timerB := if (!l.rawB) = l.debB then none else some l.debounce } })
  ∧ (∀ (s : State) (i : Fin 8) (l : Lane) (loop : Loop) (d : Direction) (out : Option Passage), s.powered = true →
        l = s.lanes[i].debounced loop → s.lanes[i].timer loop ≠ none →
        track s.lanes[i].debA s.lanes[i].debB l.debA l.debB s.lanes[i].direction = (d, out) →
        ∀ s1 : State, s1 = { s with lanes := vmod s.lanes i fun _ => { l with direction := d } } →
        (l.mode = .disabled → exec (.loopDebounceExpiry i loop) s = .next { s with lanes := vmod s.lanes i fun _ => l })
        ∧ (l.mode ≠ .disabled → out = none → exec (.loopDebounceExpiry i loop) s = .next s1)
        ∧ (l.mode = .exit → out = some .forward → exec (.loopDebounceExpiry i loop) s = .next (s1.post i.val .exit))
        ∧ (l.mode = .exit → out = some .reverse → exec (.loopDebounceExpiry i loop) s = .next (s1.post i.val .wrongWay))
        ∧ (∀ a, l.mode = .entry → out = some .forward → l.pending = none → l.attribution = some a →
            exec (.loopDebounceExpiry i loop) s = .next (
              if s.book.records[a.record].state = .opened ∧ s.book.records[a.record].show_ = some a.show_ then
                ({ s1 with book := { s.book with records := vmod s.book.records a.record fun c =>
                  { c with counts := { c.counts with tailgates := min 65535 (c.counts.tailgates + 1) } } } }.post i.val
                    (.tailgate (some a) true))
              else s1.post i.val (.tailgate (some a) false)))
        ∧ (l.mode = .entry → out = some .forward → l.pending = none → l.attribution = none →
            exec (.loopDebounceExpiry i loop) s = .next (s1.post i.val (.tailgate none false)))
        ∧ (l.mode = .entry → out = some .reverse → l.attribution = none →
            exec (.loopDebounceExpiry i loop) s = .next (s1.post i.val (.backout none false (l.pending.map fun q : Admission => q.tag))))
        ∧ (∀ a, l.mode = .entry → out = some .reverse → l.attribution = some a →
            exec (.loopDebounceExpiry i loop) s = .next (
              if s.book.records[a.record].state = .opened ∧ s.book.records[a.record].show_ = some a.show_ then
                ({ s1 with book := { s.book with records := vmod s.book.records a.record fun c =>
                  { c with counts := { c.counts with backouts := min 65535 (c.counts.backouts + 1) } } } }.post i.val
                    (.backout (some a) true (l.pending.map fun q : Admission => q.tag)))
              else s1.post i.val (.backout (some a) false (l.pending.map fun q : Admission => q.tag)))))

/-- The passage tracker (R86, R87): the direction and the movement that a debounced change gives. -/
def Obligations.PassageTracker : Prop :=
  (∀ d, track true false true true d = (if d = .none then .fwd else d, none))
  ∧ (∀ d, track false true true true d = (if d = .none then .rev else d, none))
  ∧ (∀ a b a' b' d, a' ≠ b' → track a b a' b' d = (d, none))
  ∧ (∀ d, track false true false false d = (.none, if d = .fwd then some .forward else none))
  ∧ (∀ d, track true false false false d = (.none, if d = .rev then some .reverse else none))

/-- A forward passage in ENTRY completes the pending admission (R94, R95): the car ON_LOT with its time, capture and late
mark, the counts, the attribution, the barrier down, and ADMITTED. -/
def Obligations.ForwardPassageCompletes : Prop :=
  ∀ (s : State) (i : Fin 8) (loop : Loop) (p : Admission) (c : Car) (n : Nat) (late : Bool) (capture : Option Position),
    s.powered = true → s.lanes[i].timer loop ≠ none → s.lanes[i].mode = .entry → s.lanes[i].pending = some p →
    (track s.lanes[i].debA s.lanes[i].debB (s.lanes[i].debounced loop).debA (s.lanes[i].debounced loop).debB
      s.lanes[i].direction).2 = some .forward →
    s.findCar p.tag = some c → s.book.records[c.record].state = .opened → s.book.records[c.record].show_ = some n →
    late = decide ((s.policies c.screen).gate ≠ .admitAll) →
    capture = (if s.screens[c.screen].state = .running ∨ s.screens[c.screen].state = .holding then
      s.screens[c.screen].position else none) →
    exec (.loopDebounceExpiry i loop) s = .next { s with
      lanes := vmod s.lanes i fun l => { l.debounced loop with
        direction := .none, admTimer := none, pending := none, barrierUp := false
        attribution := some ⟨c.screen, c.record, n⟩ }
      cars := s.cars.map fun x => if x.tag = p.tag then
        { x with state := .onLot, admitted := some s.book.siteTime, capture := capture, late := late } else x
      book := { s.book with records := vmod s.book.records c.record fun x => { x with counts := { x.counts with
        admissions := min 65535 (x.counts.admissions + 1)
        lateAdmissions := min 65535 (x.counts.lateAdmissions + if late then 1 else 0)
        occupants := min 16777215 (x.counts.occupants + c.occupants) } } }
      link := s.link.postReport ⟨s.book.siteTime, i.val, .admitted c.tag c.screen c.record c.occupants late capture⟩ }

/-- ADMIT accepted (R92): the PENDING car, the lane's pending admission, the barrier up and the admission timer. -/
def Obligations.AdmitRaisesTheBarrier : Prop :=
  ∀ (s : State) (tag bl bs bo : Byte) (x : Half) (i : Fin 8) (c : Fin 6) (r : Fin 16), s.takes tag →
    bl.toNat = i.val → bs.toNat = c.val → x ≠ 0 → 1 ≤ bo.toNat → bo.toNat ≤ 15 → s.lanes[i].mode = .entry →
    s.lanes[i].pending = none → (s.policies c).gate ≠ .closed → s.findCar x.toNat = none →
    s.carCount c < s.site.capacity.get c → s.screens[c].bound = some r →
    exec (.admitCar tag bl x bs bo) s = .next ({ s with
        cars := insertCar ⟨x.toNat, c, r, .pending, i, bo.toNat, false, none, none, 0⟩ s.cars
        lanes := vmod s.lanes i fun l => { l with
          pending := some ⟨x.toNat, c, r⟩, barrierUp := true, admTimer := some (l.timeout * 1000) } }.replied tag
      [BitVec.ofNat 8 r.val])

/-- A pending admission that ends unused (R96, R97): by its timer, which is counted, and by CANCEL_ADMIT, which is not. -/
def Obligations.AdmissionEndsUnused : Prop :=
  ∀ (s : State) (i : Fin 8) (p : Admission), s.lanes[i].pending = some p →
    (∀ (ms n : Nat), s.powered = true → s.lanes[i].admTimer = some ms → s.book.records[p.record].state = .opened →
      s.book.records[p.record].show_ = some n → exec (.admissionTimerExpiry i) s = .next { s with
        cars := s.cars.filter (·.tag ≠ p.tag)
        lanes := vmod s.lanes i fun l => { l with admTimer := none, pending := none, barrierUp := false }
        book := { s.book with records := vmod s.book.records p.record fun c => { c with counts := { c.counts with
          admissionsExpired := min 65535 (c.counts.admissionsExpired + 1) } } }
        link := s.link.postReport ⟨s.book.siteTime, i.val, .admissionEnded p.tag p.screen p.record .expired⟩ })
    ∧ ∀ (tag b : Byte), s.takes tag → b.toNat = i.val → exec (.cancelAdmit tag b) s = .next ({ s with
        cars := s.cars.filter (·.tag ≠ p.tag)
        lanes := vmod s.lanes i fun l => { l with admTimer := none, pending := none, barrierUp := false }
        link := s.link.postReport ⟨s.book.siteTime, i.val, .admissionEnded p.tag p.screen p.record .cancelled⟩ }.replied
      tag (putHalf (BitVec.ofNat 16 p.tag)))

/-- SET_LANE (R103, R88): clamped settings, and a change of mode reloads the tracker; a lane that holds an admission keeps
its mode.

SET_SITE accepted (R112 to R114): every setting, clamped where the rule says so, and the reply with the car counts. -/
def Obligations.LaneAndSiteSettings : Prop :=
  (∀ (s : State) (tag b bm : Byte) (x y : Half) (i : Fin 8) (m : LaneMode), s.takes tag → b.toNat = i.val →
      bm.toNat = m.code →
      (s.lanes[i].pending = none ∨ m = s.lanes[i].mode → exec (.setLane tag b bm x y) s = .next ({ s with
          lanes := vmod s.lanes i fun l => { l with
            mode := m, debounce := max 50 (min 1000 x.toNat), timeout := max 10 (min 300 y.toNat)
            direction := if m = l.mode then l.direction else .none } }.replied tag
        ([bm] ++ putHalf (BitVec.ofNat 16 (max 50 (min 1000 x.toNat)))
          ++ putHalf (BitVec.ofNat 16 (max 10 (min 300 y.toNat))))))
      ∧ (s.lanes[i].pending ≠ none → m ≠ s.lanes[i].mode →
          exec (.setLane tag b bm x y) s = .next (s.refused tag .laneBusy [])))
  ∧ (∀ (s : State) (tag : Byte) (w : SiteWire) (win : Six (Fin 2)) (g : SiteSettings), s.takes tag →
        windows? w.window = some win → 1 ≤ w.orderClip.toNat → w.orderClip.toNat ≤ 255 → 1 ≤ w.recallClip.toNat →
        w.recallClip.toNat ≤ 255 →
        g = { spacing := min 60 w.spacing.toNat
              capacity := ⟨min 500 w.capacity.s0.toNat, min 500 w.capacity.s1.toNat, min 500 w.capacity.s2.toNat,
                min 500 w.capacity.s3.toNat, min 500 w.capacity.s4.toNat, min 500 w.capacity.s5.toNat⟩
              window := win, orderClip := w.orderClip.toNat, recallClip := w.recallClip.toNat
              recallInterval := max 30 (min 900 w.recallInterval.toNat), maxRecalls := min 5 w.maxRecalls.toNat } →
        g.capacity.toList.sum ≤ 2048 → (∀ i : Fin 6, s.carCount i ≤ g.capacity.get i) →
        exec (.setSite tag w) s = .next ({ s with site := g }.replied tag
          (siteBytes g ++ allScreens.flatMap fun i => putHalf (BitVec.ofNat 16 (s.carCount i)))))

/-- CHECKOUT accepted (R115, R116, R176), order numbers being distinct (StepKeepsQueues): the car's record leaves. Of its
orders, in ascending number, each TAKEN one becomes ORPHANED in place; each READY or CALLED one leaves the table, its ready
list and the deferred list, or its waiting call the queue with a slot-free notice (R77, R78), and is counted as expired where
its record is OPEN with its show. Each gets its ORDER_ENDED report, and the reply gives screen, record, admitted time and the
two numbers. Nothing else changes. That the admitted time, an optional field of the record (R107), stands plain in the reply,
without a presence byte, is the model's choice (log entry 13). -/
def Obligations.CheckoutReleasesTheCar : Prop :=
  ∀ (s : State) (tag : Byte) (x : Half) (c : Car) (time : Word) (own served : List Order), s.takes tag → x ≠ 0 →
    s.findCar x.toNat = some c → c.state = .onLot → c.admitted = some time → (s.orders.table.map (·.number)).Nodup →
    own = s.orders.table.filter (fun o => o.tag = x.toNat ∧ o.state ≠ .orphaned) →
    served = own.filter (fun o => o.state = .ready ∨ o.state = .called) →
    ∃ t : State, exec (.checkout tag x) s = .next t
      ∧ t = { s with
          cars := s.cars.filter (·.tag ≠ x.toNat)
          orders := { s.orders with
            table := (s.orders.table.filter fun o => o.tag ≠ x.toNat ∨ o.state = .taken ∨ o.state = .orphaned).map fun o =>
              if o.tag = x.toNat ∧ o.state = .taken then { o with state := .orphaned } else o
            ready := t.orders.ready
            deferred := s.orders.deferred.filter fun d => ∀ o ∈ served, o.deferredMark = true → o.number ≠ d.order }
          announce := { s.announce with
            queue := (served.filter fun o => o.deferredMark = false).foldl (fun (q : List Entry) o => q.eraseP fun e =>
              (e.kind == .call .orderReady || e.kind == .call .recall) && e.order == some o.number) s.announce.queue }
          notices := s.notices ++ List.replicate (s.announce.queue.length - t.announce.queue.length) Notice.slotFree
          book := t.book
          link := (own.foldl (fun (k : Link) o => k.postReport ⟨s.book.siteTime, o.window.val,
              if o.state = .taken then .orderEnded o.number o.tag o.screen .orphaned o.calls false false
              else .orderEnded o.number o.tag o.screen .expired o.calls true (decide
                (s.book.records[o.record].state = .opened ∧ s.book.records[o.record].show_ = some o.show_))⟩) s.link).postReply
            ⟨tag, .ok, [BitVec.ofNat 8 c.screen.val, BitVec.ofNat 8 c.record.val] ++ putWord time
              ++ [BitVec.ofNat 8 (own.length - served.length), BitVec.ofNat 8 served.length], false⟩ }
      ∧ (∀ w : Fin 2, t.orders.ready[w] = served.foldl (fun (l : List Nat) o =>
          if o.window = w then l.erase o.number else l) s.orders.ready[w])
      ∧ (served = [] → t.book = s.book)
      ∧ ∀ n, served ≠ [] → (∀ o ∈ served, o.record = c.record ∧ o.show_ = n) → s.book.records[c.record].state = .opened →
        s.book.records[c.record].show_ = some n →
        t.book = { s.book with records := vmod s.book.records c.record fun y => { y with counts := { y.counts with
          ordersExpired := min 65535 (y.counts.ordersExpired + served.length) } } }

/-! ## Count book and clocks -/

/-- The audit key (R131): KEY_RAW_CHANGE to the other level, and KEY_DEBOUNCE_EXPIRY with its report.

RELEASE_COUNT and SET_COUNT_POLICY (R132, R133), accepted and without the key, which is checked before the state of the record:
a FREE and an OPEN record get KEY_REQUIRED too. -/
def Obligations.AuditKeyAndPolicy : Prop :=
  (∀ s : State, s.powered = true →
      exec (.keyRawChange (!s.key.raw)) s = .next { s with key := { s.key with
        raw := !s.key.raw, timer := if (!s.key.raw) = s.key.office then none else some 100 } }
      ∧ ∀ ms, s.key.timer = some ms → exec .keyDebounceExpiry s = .next { s with
          key := { s.key with office := s.key.raw, timer := none }
          link := s.link.postReport ⟨s.book.siteTime, 0, .key s.key.raw s.book.policy⟩ })
  ∧ (∀ (s : State) (tag b : Byte), s.takes tag →
        (∀ r : Fin 16, b.toNat = r.val →
          (s.book.records[r].state = .closed → s.book.policy = .free ∨ s.key.office = true → exec (.releaseCount tag b) s =
            .next ({ s with book := { s.book with records := vmod s.book.records r fun _ =>
              ⟨.free, none, none, none, none, false, ⟨0, 0, 0, 0, 0, 0, 0, 0, 0, 0, 0, 0⟩⟩ } }.replied tag
                (recordBytes r s.book.records[r])))
          ∧ (s.book.policy = .keyed → s.key.office = false →
            exec (.releaseCount tag b) s = .next (s.refused tag .keyRequired [])))
        ∧ ∀ p : CountPolicy, b.toNat = p.code →
          (s.key.office = true → exec (.setCountPolicy tag b) s =
            .next ({ s with book := { s.book with policy := p } }.replied tag [b]))
          ∧ (s.key.office = false → exec (.setCountPolicy tag b) s = .next (s.refused tag .keyRequired [])))

/-- The clocks (R134, R148): SET_TIME, SITE_TIME_ADVANCE with its wrap, and KITCHEN_CLOCK_ADVANCE with its wrap; no timer
moves. The model's choice (log entry 30): an advance given as a command ends the second in progress, so that 0 ms of the
next have passed (secondMs and clockMs). -/
def Obligations.Clocks : Prop :=
  ∀ s : State,
    (∀ (tag : Byte) (time : Word), s.takes tag → exec (.setTime tag time) s =
      .next ({ s with book := { s.book with siteTime := time, secondMs := 0 } }.replied tag
        (putWord s.book.siteTime ++ putWord time)))
    ∧ (s.powered = true ∨ s.book.valid = true → ∃ t, exec .siteTimeAdvance s = .next t
        ∧ t = { s with book := { s.book with siteTime := t.book.siteTime, secondMs := 0 } }
        ∧ t.book.siteTime.toNat = if s.book.siteTime.toNat = 4294967295 then 0 else s.book.siteTime.toNat + 1)
    ∧ (s.powered = true → ∃ t, exec .kitchenClockAdvance s = .next t
        ∧ t = { s with kitchen := { s.kitchen with clock := t.kitchen.clock, clockMs := 0 } }
        ∧ t.kitchen.clock.toNat = if s.kitchen.clock.toNat = 4294967295 then 0 else s.kitchen.clock.toNat + 1)

/-! ## Kitchen and orders -/

/-- LOAD_MENU, SET_STOCK and SET_STATION accepted (R140, R144, R146), and the reading of an item record (R140). -/
def Obligations.KitchenRequests : Prop :=
  (∀ (s : State) (tag b : Byte), s.takes tag →
    (∀ wires items, 1 ≤ wires.length → wires.length ≤ 113 → b.toNat + wires.length ≤ 128 → readAll item? wires = some items →
      ∃ menu, exec (.loadMenu tag b wires) s = .next ({ s with kitchen := { s.kitchen with menu := menu } }.replied tag
          [b, BitVec.ofNat 8 wires.length])
        ∧ ∀ i : Fin 128, menu[i] = if i.val < b.toNat then s.kitchen.menu[i] else
            (items[i.val - b.toNat]?).getD s.kitchen.menu[i])
    ∧ (∀ (i : Fin 128) (k : Byte) (x y : Half), b.toNat = i.val → (k ≠ 0 → x.toNat ≤ 9999) → y.toNat ≤ 9999 →
      exec (.setStock tag b k x y) s = .next ({ s with kitchen := { s.kitchen with
          menu := vmod s.kitchen.menu i fun it =>
            { it with stock := if k = 0 then none else some x.toNat, low := y.toNat } } }.replied tag
        ([b] ++ optional u16 s.kitchen.menu[i].stock ++ (if k = 0 then [0] else 1 :: putHalf x) ++ putHalf y)))
    ∧ ∀ (st : Fin 4) (o : Byte) (x : Half) (t : Station), b.toNat = st.val →
      t = { s.kitchen.stations[st] with opened := o != 0, perUnit := min 120 x.toNat } →
      exec (.setStation tag b o x) s = .next ({ s with kitchen := { s.kitchen with
          stations := vmod s.kitchen.stations st fun _ => t } }.replied tag (stationBytes t s.kitchen.clock)))
  ∧ (∀ (wires : List ItemWire) items, readAll item? wires = some items ↔ wires.map item? = items.map some)
  ∧ ∀ (w : ItemWire) (it : Item), item? w = some it ↔
      w.station.toNat = it.station.val ∧ it.prep = min 1800 w.prep.toNat ∧ (it.available = true ↔ w.available ≠ 0)
      ∧ w.low.toNat ≤ 9999 ∧ it.low = w.low.toNat
      ∧ ((w.tracked = 0 ∧ it.stock = none) ∨ (w.tracked ≠ 0 ∧ w.stock.toNat ≤ 9999 ∧ it.stock = some w.stock.toNat))

/-- BUMP and HANDED (R147, R172): a raw change to the other level; HANDED_DEBOUNCE_EXPIRY of a release, or at an empty
ready list, moves the button alone.

BUMP_DEBOUNCE_EXPIRY (R147, R153): a press completes the head ticket, the next becomes head with the clock's reading,
and the order unit is handed the ticket-done notice; a release, or a press at an empty queue, moves the button alone. -/
def Obligations.Buttons : Prop :=
  (∀ s : State, s.powered = true →
      (∀ st : Fin 4, exec (.bumpRawChange st (!s.kitchen.stations[st].bump.raw)) s = .next { s with
        kitchen := { s.kitchen with stations := vmod s.kitchen.stations st fun x => { x with bump := { x.bump with
          raw := !x.bump.raw, timer := if (!x.bump.raw) = x.bump.deb then none else some 50 } } } })
      ∧ (∀ (w : Fin 2) (ms : Nat), s.orders.handed[w].timer = some ms →
        (s.orders.handed[w].raw = false ∨ s.orders.ready[w] = []) → exec (.handedDebounceExpiry w) s = .next { s with
          orders := { s.orders with handed := vmod s.orders.handed w fun b => ⟨b.raw, b.raw, none⟩ } })
      ∧ ∀ w : Fin 2, exec (.handedRawChange w (!s.orders.handed[w].raw)) s = .next { s with
        orders := { s.orders with handed := vmod s.orders.handed w fun b => { b with
          raw := !b.raw, timer := if (!b.raw) = b.deb then none else some 50 } } })
  ∧ (∀ (s : State) (st : Fin 4) (x : Station) (ms : Nat), s.powered = true → x = s.kitchen.stations[st] →
        x.bump.timer = some ms →
        (∀ h rest, x.bump.raw = true → x.bump.deb = false → x.queue = h :: rest →
          exec (.bumpDebounceExpiry st) s = .next { s with
            kitchen := { s.kitchen with stations := vmod s.kitchen.stations st fun _ => { x with
              bump := ⟨true, true, none⟩
              queue := match rest with
                | [] => []
                | n :: others => { n with started := some s.kitchen.clock } :: others } }
            notices := s.notices ++ [Notice.ticketDone h.order st] })
        ∧ (x.bump.raw = false ∨ x.queue = [] → exec (.bumpDebounceExpiry st) s = .next { s with
            kitchen := { s.kitchen with stations := vmod s.kitchen.stations st fun _ =>
              { x with bump := ⟨x.bump.raw, x.bump.raw, none⟩ } } }))

/-- The estimate arithmetic (R150 to R152) on an order's lines: ticket prep, time ahead with the head's remaining time,
the station estimate, and the largest of the stations used. -/
def Obligations.EstimateArithmetic : Prop :=
  ∀ (k : Kitchen) (lines : List OrderLine) (st : Fin 4),
    (∀ own, own = lines.filter (fun l => k.menu[l.item].station == st) → ticketPrep k.menu lines st k.stations[st].perUnit =
      min 3600 ((own.map fun l => k.menu[l.item].prep).foldl max 0
        + ((own.map (·.quantity)).sum - 1) * k.stations[st].perUnit))
    ∧ timeAhead [] k.clock = 0
    ∧ (∀ h rest c, h.started = some c → timeAhead (h :: rest) k.clock =
        h.prep - (k.clock.toNat + 4294967296 - c.toNat) % 4294967296 + (rest.map (·.prep)).sum)
    ∧ k.stationEstimate lines st = min 3600 (timeAhead k.stations[st].queue k.clock
        + ticketPrep k.menu lines st k.stations[st].perUnit)
    ∧ (st ∈ stationsOf k.menu lines → k.stationEstimate lines st ≤ k.estimate lines)
    ∧ (k.estimate lines = 0 ∨ ∃ x ∈ stationsOf k.menu lines, k.estimate lines = k.stationEstimate lines x)
    ∧ k.estimate lines ≤ 3600

/-- ORDER accepted (R161, R163 to R165): the record, the car's open order count, the counts, one ticket at the tail of each
station used, the stock taken with its STOCK reports in ascending item number (R143, R157), and the reply.

ORDER refused (R163, R142, R164): each cause of the table after the ones above it, and the reading of its lines. -/
def Obligations.OrderIsTaken : Prop :=
  (∀ (s : State) (tag : Byte) (x : Half) (wires : List LineWire) (lines : List OrderLine) (c : Car), s.takes tag → x ≠ 0 →
    1 ≤ wires.length → wires.length ≤ 12 → readAll line? wires = some lines → s.findCar x.toNat = some c →
    c.state = .onLot →
    (c.openOrders = 4 → s.refuses tag (.order tag x wires) .carLimit)
    ∧ (c.openOrders ≠ 4 → (s.policies c.screen).order = .closed → s.refuses tag (.order tag x wires) .orderingClosed)
    ∧ (c.openOrders ≠ 4 → (s.policies c.screen).order ≠ .closed → ∀ item : OrderLine → Item,
        (∀ l, item l = s.kitchen.menu[l.item]) →
      (∀ k l, lines[k]? = some l → (item l).available = false → (∀ m ∈ lines.take k, (item m).available = true) →
        exec (.order tag x wires) s = .next (s.refused tag .itemUnavailable [BitVec.ofNat 8 k]))
      ∧ ((∀ l ∈ lines, (item l).available = true) → ∀ opened : OrderLine → Bool,
          (∀ l, opened l = s.kitchen.stations[(item l).station].opened) →
        (∀ k l, lines[k]? = some l → opened l = false → (∀ m ∈ lines.take k, opened m = true) →
          exec (.order tag x wires) s = .next (s.refused tag .stationClosed [BitVec.ofNat 8 k]))
        ∧ ((∀ l ∈ lines, opened l = true) → ∀ covered : OrderLine → Prop,
            (∀ l, covered l ↔ ∀ q, (item l).stock = some q → ((lines.filter (·.item == l.item)).map (·.quantity)).sum ≤ q) →
          (∀ k l, lines[k]? = some l → ¬covered l → (∀ m ∈ lines.take k, covered m) →
            exec (.order tag x wires) s = .next (s.refused tag .soldOut [BitVec.ofNat 8 k]))
          ∧ ((∀ l ∈ lines, covered l) →
            (128 ≤ s.orders.table.length → s.refuses tag (.order tag x wires) .orderTableFull)
            ∧ (s.orders.table.length < 128 →
              (∀ st : Fin 4, (∃ l ∈ lines, (item l).station = st) → 24 ≤ s.kitchen.stations[st].queue.length →
                (∀ q : Fin 4, q < st → (∃ l ∈ lines, (item l).station = q) → s.kitchen.stations[q].queue.length < 24) →
                exec (.order tag x wires) s = .next (s.refused tag .stationFull [BitVec.ofNat 8 st.val]))
              ∧ ((∀ l ∈ lines, s.kitchen.stations[(item l).station].queue.length < 24) → ∀ p prog g left,
                  (s.policies c.screen).order = .lastCall → s.screens[c.screen].position = some p →
                  s.screens[c.screen].program = some prog → prog[p.segment]? = some g →
                  left = (g.length - p.frame) / 24 → left < s.kitchen.estimate lines →
                exec (.order tag x wires) s = .next (s.refused tag .tooLate
                  (putHalf (BitVec.ofNat 16 (s.kitchen.estimate lines)) ++ putTriple (BitVec.ofNat 24 left))))))))))
  ∧ (∀ (s : State) (tag : Byte) (x : Half) (wires : List LineWire) (lines : List OrderLine) (c : Car) (n show_ : Nat)
      (o : Order) (link : Link), s.takes tag → x ≠ 0 → 1 ≤ wires.length → wires.length ≤ 12 →
    readAll line? wires = some lines → s.findCar x.toNat = some c → c.state = .onLot → c.openOrders ≠ 4 →
    (s.policies c.screen).order ≠ .closed →
    (∀ l ∈ lines, s.kitchen.menu[l.item].available = true
      ∧ s.kitchen.stations[s.kitchen.menu[l.item].station].opened = true
      ∧ (∀ q, s.kitchen.menu[l.item].stock = some q → ((lines.filter (·.item == l.item)).map (·.quantity)).sum ≤ q)
      ∧ s.kitchen.stations[s.kitchen.menu[l.item].station].queue.length < 24) →
    s.orders.table.length < 128 →
    ((s.policies c.screen).order = .lastCall → ∃ p prog g, s.screens[c.screen].position = some p
      ∧ s.screens[c.screen].program = some prog ∧ prog[p.segment]? = some g
      ∧ s.kitchen.estimate lines ≤ (g.length - p.frame) / 24) →
    n = s.orders.nextOrder → s.book.records[c.record].state = .opened → s.book.records[c.record].show_ = some show_ →
    o = { number := n, tag := c.tag, screen := c.screen, record := c.record, show_ := show_
          window := s.site.window.get c.screen, state := .taken, lines := lines
          units := (lines.map (·.quantity)).sum, outstanding := stationsOf s.kitchen.menu lines
          taken := s.book.siteTime, readyAt := none, calls := 0, callEntry := none, deferredMark := false
          recallTimer := none } →
    link = (List.finRange 128).foldl (fun (k : Link) i =>
      match s.kitchen.menu[i].stock with
      | none => k
      | some q =>
        let after := q - ((lines.filter (·.item == i)).map (·.quantity)).sum
        let low := s.kitchen.menu[i].low
        if ∀ l ∈ lines, l.item ≠ i then k
        else if after = 0 then
          k.postReport ⟨s.book.siteTime, s.kitchen.menu[i].station.val, .stock i .soldOut after low n⟩
        else if low < q ∧ after ≤ low then
          k.postReport ⟨s.book.siteTime, s.kitchen.menu[i].station.val, .stock i .low after low n⟩
        else k) s.link →
    ∃ t : State, exec (.order tag x wires) s = .next t
      ∧ t = { s with
          orders := { s.orders with table := insertOrder o s.orders.table, counter := nextNumber n }
          cars := s.cars.map fun y => if y.tag = c.tag then { y with openOrders := y.openOrders + 1 } else y
          book := { s.book with records := vmod s.book.records c.record fun y => { y with counts := { y.counts with
            ordersTaken := min 65535 (y.counts.ordersTaken + 1)
            unitsSold := min 16777215 (y.counts.unitsSold + o.units) } } }
          kitchen := t.kitchen
          link := link.postReply ⟨tag, .ok, putHalf (BitVec.ofNat 16 n)
            ++ putHalf (BitVec.ofNat 16 (s.kitchen.estimate lines)) ++ [BitVec.ofNat 8 o.window.val]
            ++ [BitVec.ofNat 8 o.units], false⟩ }
      ∧ t.kitchen.clock = s.kitchen.clock ∧ t.kitchen.clockMs = s.kitchen.clockMs
      ∧ (∀ i : Fin 128, t.kitchen.menu[i] = { s.kitchen.menu[i] with stock := s.kitchen.menu[i].stock.map fun q =>
          q - ((lines.filter (·.item == i)).map (·.quantity)).sum })
      ∧ ∀ st : Fin 4, t.kitchen.stations[st] = if st ∈ o.outstanding then { s.kitchen.stations[st] with
          queue := s.kitchen.stations[st].queue ++ [{
            order := n, station := st, units := ((linesAt s.kitchen.menu lines st).map (·.quantity)).sum
            prep := ticketPrep s.kitchen.menu lines st s.kitchen.stations[st].perUnit
            started := if s.kitchen.stations[st].queue = [] then some s.kitchen.clock else none }] }
        else s.kitchen.stations[st])
  ∧ (∀ (s : State) (tag : Byte) (x : Half) (wires : List LineWire), s.takes tag → wires.length ≤ 255 →
      (x = 0 ∨ wires = [] ∨ 12 < wires.length ∨ (∃ w ∈ wires, line? w = none) →
        s.refuses tag (.order tag x wires) .outOfRange)
      ∧ (x ≠ 0 → 1 ≤ wires.length → wires.length ≤ 12 → (∀ w ∈ wires, line? w ≠ none) →
        ((∀ a ∈ s.cars, a.tag ≠ x.toNat) → s.refuses tag (.order tag x wires) .unknownCar)
        ∧ ∀ a, s.findCar x.toNat = some a → a.state = .pending → s.refuses tag (.order tag x wires) .notOnLot))
  ∧ (∀ (wires : List LineWire) lines, readAll line? wires = some lines ↔ wires.map line? = lines.map some)
  ∧ (∀ (w : LineWire) (l : OrderLine), line? w = some l ↔ w.item.toNat = l.item.val ∧ l.quantity = w.quantity.toNat
      ∧ 1 ≤ w.quantity.toNat ∧ w.quantity.toNat ≤ 20)
  ∧ ∀ (menu : Vector Item 128) (lines : List OrderLine) (st : Fin 4),
      (st ∈ stationsOf menu lines ↔ ∃ l ∈ lines, menu[l.item].station = st)
      ∧ (stationsOf menu lines).Pairwise (· < ·)

/-- TICKET_DONE_NOTICE (R166), order numbers being distinct (StepKeepsQueues): a station leaves the set; the last one makes
a TAKEN order READY with its call placed, or ends an ORPHANED one; a notice for another order or station is ignored. -/
def Obligations.TicketDoneMakesReady : Prop :=
  ∀ (s s1 : State) (st : Fin 4) (number : Nat), s.powered = true → (s.orders.table.map (·.number)).Nodup →
    s1 = { s with notices := s.notices.erase (.ticketDone number st) } →
    (s.findOrder number = none → exec (.ticketDoneNotice number st) s = .next s1)
    ∧ ∀ o, s.findOrder number = some o →
      (st ∉ o.outstanding → exec (.ticketDoneNotice number st) s = .next s1)
      ∧ (st ∈ o.outstanding → (∃ x ∈ o.outstanding, x ≠ st) → exec (.ticketDoneNotice number st) s =
          .next { s1 with orders := { s.orders with table := s.orders.table.map fun y =>
            if y.number = number then { y with outstanding := y.outstanding.filter (· ≠ st) } else y } })
      ∧ (o.outstanding = [st] → o.state = .orphaned → exec (.ticketDoneNotice number st) s =
          .next { s1 with
            orders := { s.orders with table := s.orders.table.filter (·.number ≠ number) }
            link := s.link.postReport ⟨s.book.siteTime, o.window.val,
              .orderEnded number o.tag o.screen .orphanDone o.calls true false⟩ })
      ∧ ∀ n t, o.outstanding = [st] → o.state = .taken →
          { s1 with orders := { s.orders with
            table := s.orders.table.map fun y : Order => if y.number = number then
              { y with outstanding := [], state := .ready, readyAt := some s.book.siteTime } else y
            ready := vmod s.orders.ready o.window fun l => l ++ [number] } }.placeCall o .orderReady = (n, t) →
          exec (.ticketDoneNotice number st) s = .next (t.post o.window.val
            (.orderReady number o.tag o.screen o.taken s.book.siteTime (n.getD 0)))

/-- Placing a call while the queue has room (R60, R167), and SLOT_FREE_NOTICE for the head of the deferred list (R168): the
entry's kind, priority, target, clip, tag and order number, the grant where the path is IDLE, and the entry's number stored in
the order. With 32 entries waiting a call is deferred. SLOT_FREE_NOTICE with nothing deferred, or with the queue full again,
changes nothing.

CALL_PLAYED_NOTICE (R169) for an order's stored call, and for any other, also where no live order holds the number; the recall timer starts at the recall
interval. -/
def Obligations.CallsArePlacedAndPlayed : Prop :=
  (∀ (s : State) (o : Order) (k : CallKind) (n : Nat) (queued : State), s.announce.queue.length < 32 →
      n = pickNumber s.announce.liveNumbers s.announce.liveNumbers.length s.announce.nextEntry →
      queued = { s with announce := { s.announce with
        queue := s.announce.queue ++ [⟨n, .call k, 1, [o.screen],
          (match k with
            | .orderReady => s.site.orderClip
            | .recall => s.site.recallClip), some o.tag, some o.number⟩]
        nextEntry := nextNumber n } } →
      s.placeCall o k = (some n, (if s.announce.state = .idle then queued.grant else queued).updOrder o.number fun y =>
        { y with callEntry := some n })
      ∧ ∀ rest t, s.powered = true → s.orders.deferred = ⟨o.number, k⟩ :: rest → s.findOrder o.number = some o →
        t = { queued with notices := s.notices.erase .slotFree } →
        exec .slotFreeNotice s = .next { if s.announce.state = .idle then t.grant else t with
          orders := { s.orders with
            deferred := rest
            table := s.orders.table.map fun y =>
              if y.number = o.number then { y with deferredMark := false, callEntry := some n } else y } })
  ∧ (∀ (s : State) (o : Order) (k : CallKind), 32 ≤ s.announce.queue.length →
      s.placeCall o k = (none, { s with orders := { s.orders with
        table := s.orders.table.map fun y => if y.number = o.number then { y with deferredMark := true } else y
        deferred := s.orders.deferred ++ [⟨o.number, k⟩] } }))
  ∧ (∀ s : State, s.powered = true → (s.orders.deferred = [] ∨ 32 ≤ s.announce.queue.length) →
      exec .slotFreeNotice s = .next { s with notices := s.notices.erase .slotFree })
  ∧ (∀ (s : State) (number entry : Nat) (kind : CallKind) (outcome : PlayOutcome), s.powered = true →
        (∀ o ∈ s.orders.table, o.number ≠ number) → exec (.callPlayedNotice number entry kind outcome) s = .next { s with
          notices := s.notices.erase (.callPlayed number entry kind outcome) })
  ∧ (∀ (s : State) (number entry : Nat) (kind : CallKind) (outcome : PlayOutcome) (o : Order), s.powered = true →
        s.findOrder number = some o →
        ((o.state = .ready ∨ o.state = .called) → o.callEntry = some entry →
          exec (.callPlayedNotice number entry kind outcome) s = .next { s with
            notices := s.notices.erase (.callPlayed number entry kind outcome)
            orders := { s.orders with table := s.orders.table.map fun y => if y.number = number then { y with
              state := .called, calls := y.calls + 1, recallTimer := some (s.site.recallInterval * 1000) } else y } })
        ∧ (o.state = .taken ∨ o.state = .orphaned ∨ o.callEntry ≠ some entry →
          exec (.callPlayedNotice number entry kind outcome) s = .next { s with
            notices := s.notices.erase (.callPlayed number entry kind outcome) }))

/-- RECALL_TIMER_EXPIRY (R170): with a recall due the timer stops and the RECALL is placed; above the maximum the order
expires, counted in its open record. -/
def Obligations.RecallOrExpiry : Prop :=
  ∀ (s : State) (number ms : Nat) (o : Order), s.powered = true → s.findOrder number = some o → o.state = .called →
    o.recallTimer = some ms →
    (o.calls ≤ s.site.maxRecalls → exec (.recallTimerExpiry number) s =
      .next ((s.updOrder number fun y => { y with recallTimer := none }).placeCall o .recall).2)
    ∧ (s.site.maxRecalls < o.calls → s.book.records[o.record].state = .opened →
      s.book.records[o.record].show_ = some o.show_ → exec (.recallTimerExpiry number) s = .next { s with
        orders := { s.orders with
          table := s.orders.table.filter (·.number ≠ number)
          ready := vmod s.orders.ready o.window fun l => l.erase number }
        cars := s.cars.map fun y => if y.tag = o.tag then { y with openOrders := y.openOrders - 1 } else y
        book := { s.book with records := vmod s.book.records o.record fun c => { c with counts := { c.counts with
          ordersExpired := min 65535 (c.counts.ordersExpired + 1) } } }
        link := s.link.postReport
          ⟨s.book.siteTime, o.window.val, .orderEnded number o.tag o.screen .expired o.calls true true⟩ })

/-- An order is PICKED (R172 to R174) by PICKUP, or by HANDED at its window where it is the oldest: its timer, list place,
call, counts, car and table record, with ORDER_ENDED. Its call, where one still waits, goes with it (step 3 of R174): a
deferred one leaves the deferred list, and else a waiting one leaves the queue with a slot-free notice (R77, R78). -/
def Obligations.OrderIsPicked : Prop :=
  ∀ (s t : State) (o : Order) (deferred : List Deferred) (queue : List Entry) (notices : List Notice),
    (o.state = .ready ∨ o.state = .called) → s.findOrder o.number = some o →
    (o.deferredMark = true ∧ deferred = s.orders.deferred.filter (·.order ≠ o.number) ∧ queue = s.announce.queue
        ∧ notices = s.notices)
      ∨ (o.deferredMark = false ∧ deferred = s.orders.deferred
        ∧ (((∀ e ∈ s.announce.queue, ∀ k, e.kind = .call k → e.order ≠ some o.number)
            ∧ queue = s.announce.queue ∧ notices = s.notices)
          ∨ ∃ before e behind, s.announce.queue = before ++ e :: behind ∧ (∃ k, e.kind = .call k)
            ∧ e.order = some o.number ∧ (∀ y ∈ before, ∀ k, y.kind = .call k → y.order ≠ some o.number)
            ∧ queue = before ++ behind ∧ notices = s.notices ++ [Notice.slotFree])) →
    s.book.records[o.record].state = .opened → s.book.records[o.record].show_ = some o.show_ →
    t = { s with
      orders := { s.orders with
        table := s.orders.table.filter (·.number ≠ o.number)
        ready := vmod s.orders.ready o.window fun l => l.erase o.number
        deferred := deferred }
      cars := s.cars.map fun y => if y.tag = o.tag then { y with openOrders := y.openOrders - 1 } else y
      book := { s.book with records := vmod s.book.records o.record fun c => { c with counts := { c.counts with
        ordersPicked := min 65535 (c.counts.ordersPicked + 1) } } }
      announce := { s.announce with queue := queue }
      notices := notices
      link := s.link.postReport
        ⟨s.book.siteTime, o.window.val, .orderEnded o.number o.tag o.screen .picked o.calls true true⟩ } →
    (∀ (tag : Byte) (x : Half), s.takes tag → x ≠ 0 → x.toNat = o.number → exec (.pickup tag x) s =
      .next (t.replied tag ([BitVec.ofNat 8 o.window.val] ++ putHalf (BitVec.ofNat 16 o.tag) ++ [BitVec.ofNat 8 o.calls])))
    ∧ ∀ rest ms, s.powered = true → s.orders.handed[o.window] = ⟨true, false, some ms⟩ →
      s.orders.ready[o.window] = o.number :: rest → exec (.handedDebounceExpiry o.window) s =
        .next { t with orders := { t.orders with handed := vmod s.orders.handed o.window fun _ => ⟨true, true, none⟩ } }

/-- CANCEL_ORDER (R175, R155) of a TAKEN order: its tickets leave every queue, a next head starts at the clock, the order is
counted as cancelled, its car is freed of it, and stock stays taken.

Of an ORPHANED order: its tickets leave in the same way, no car is touched, and it is counted where its record is still OPEN
with its show. Of a READY or CALLED order: its list place and its waiting or deferred call go, and it is counted. -/
def Obligations.CancelTakenOrder : Prop :=
  (∀ (s : State) (tag : Byte) (x : Half) (o : Order) (counted : Bool), s.takes tag → x ≠ 0 → s.findOrder x.toNat = some o →
    (counted = true ↔ s.book.records[o.record].state = .opened ∧ s.book.records[o.record].show_ = some o.show_) →
    (o.state = .taken ∧ counted = true) ∨ o.state = .orphaned →
    ∃ t : State, exec (.cancelOrder tag x) s = .next t
      ∧ t = { s with
          orders := { s.orders with table := s.orders.table.filter (·.number ≠ x.toNat) }
          cars := if o.state = .orphaned then s.cars else
            s.cars.map fun y => if y.tag = o.tag then { y with openOrders := y.openOrders - 1 } else y
          book := if counted then { s.book with records := vmod s.book.records o.record fun c => { c with counts :=
            { c.counts with ordersCancelled := min 65535 (c.counts.ordersCancelled + 1) } } } else s.book
          kitchen := { s.kitchen with stations := t.kitchen.stations }
          link := (s.link.postReport ⟨s.book.siteTime, o.window.val,
            .orderEnded x.toNat o.tag o.screen .cancelled o.calls true counted⟩).postReply
              ⟨tag, .ok, [if o.state = .orphaned then 3 else 0, BitVec.ofNat 8 (s.kitchen.ticketsOf x.toNat)], false⟩ }
      ∧ (s.kitchen.ticketsOf x.toNat =
          ((List.finRange 4).map fun st => s.kitchen.stations[st].queue.countP (·.order == x.toNat)).sum)
      ∧ ∀ st : Fin 4, t.kitchen.stations[st] = { s.kitchen.stations[st] with
          queue := withdrawTicket s.kitchen.stations[st].queue x.toNat s.kitchen.clock }
        ∧ (t.kitchen.stations[st].queue.map (·.order)) = (s.kitchen.stations[st].queue.map (·.order)).filter (· ≠ x.toNat)
        ∧ ∀ h rest y, s.kitchen.stations[st].queue = h :: rest → t.kitchen.stations[st].queue.head? = some y →
          (h.order ≠ x.toNat → y = h) ∧ (h.order = x.toNat → y.started = some s.kitchen.clock))
  ∧ ∀ (s t : State) (tag : Byte) (x : Half) (o : Order) (deferred : List Deferred) (queue : List Entry)
      (notices : List Notice), s.takes tag → x ≠ 0 → s.findOrder x.toNat = some o →
    (o.state = .ready ∨ o.state = .called) →
    (o.deferredMark = true ∧ deferred = s.orders.deferred.filter (·.order ≠ o.number) ∧ queue = s.announce.queue
        ∧ notices = s.notices)
      ∨ (o.deferredMark = false ∧ deferred = s.orders.deferred
        ∧ (((∀ e ∈ s.announce.queue, ∀ k, e.kind = .call k → e.order ≠ some o.number)
            ∧ queue = s.announce.queue ∧ notices = s.notices)
          ∨ ∃ before e behind, s.announce.queue = before ++ e :: behind ∧ (∃ k, e.kind = .call k)
            ∧ e.order = some o.number ∧ (∀ y ∈ before, ∀ k, y.kind = .call k → y.order ≠ some o.number)
            ∧ queue = before ++ behind ∧ notices = s.notices ++ [Notice.slotFree])) →
    s.book.records[o.record].state = .opened → s.book.records[o.record].show_ = some o.show_ →
    t = { s with
      orders := { s.orders with
        table := s.orders.table.filter (·.number ≠ o.number)
        ready := vmod s.orders.ready o.window fun l => l.erase o.number
        deferred := deferred }
      cars := s.cars.map fun y => if y.tag = o.tag then { y with openOrders := y.openOrders - 1 } else y
      book := { s.book with records := vmod s.book.records o.record fun c => { c with counts := { c.counts with
        ordersCancelled := min 65535 (c.counts.ordersCancelled + 1) } } }
      announce := { s.announce with queue := queue }
      notices := notices
      link := s.link.postReport
        ⟨s.book.siteTime, o.window.val, .orderEnded o.number o.tag o.screen .cancelled o.calls true true⟩ } →
    exec (.cancelOrder tag x) s = .next (t.replied tag [BitVec.ofNat 8 o.state.code, 0])

/-! ## Invariants -/

/-- Every step keeps the link's queues within their places (R186, R187, R191).

Every step keeps the announcement queue, the order table and the station queues within their places, and live order numbers
distinct (R161). -/
def Obligations.StepKeepsQueues : Prop :=
  (∀ s t : State, s.link.bounded → step s = .next t → t.link.bounded)
  ∧ (∀ s t : State, s.queuesOk → step s = .next t → t.queuesOk)

/-- Every step keeps each lane's barrier with its pending admission (R83, R93).

Every step keeps the car counts within the lot capacities and car tags distinct (R107, R109, R110), and, with distinct tags,
each pending admission with exactly one car record in PENDING (R93). -/
def Obligations.StepKeepsTheGate : Prop :=
  (∀ s t : State, s.barriersOk → step s = .next t → t.barriersOk)
  ∧ (∀ s t : State, s.carsOk → step s = .next t → t.carsOk)
  ∧ (∀ s t : State, s.carsOk → s.admissionsOk → step s = .next t → t.admissionsOk)

/-- Every step keeps every channel in range and its at-level indication exact (R39). -/
def Obligations.StepKeepsChannels : Prop :=
  ∀ s t : State, s.channelsOk → step s = .next t → t.channelsOk

/-- Every step keeps the strike queue with the screens in STRIKE_WAIT, one STRIKING screen, and each show bound to its own
OPEN record (R13, R15). -/
def Obligations.StepKeepsShows : Prop :=
  ∀ s t : State, s.showsOk → step s = .next t → t.showsOk

/-- The state after reset, its input levels as log entry 7 names them, has every invariant. -/
def Obligations.ResetHasTheInvariants : Prop :=
  State.reset.link.bounded ∧ State.reset.barriersOk ∧ State.reset.channelsOk ∧ State.reset.carsOk
    ∧ State.reset.queuesOk ∧ State.reset.showsOk ∧ State.reset.admissionsOk
end

