-- ==== Sys2Proof/Laws/State.lean ====
section
/-! SUPPORT. What each update of the state leaves in each field: one lemma a field, by unfolding once, so that no later proof
unfolds a record update; and the laws of a bank of units. -/

namespace Sys2Proof.Machine

/-! ## A bank of units -/

@[simp] theorem vmod_self {α : Type} {n : Nat} (v : Vector α n) (i : Fin n) (f : α → α) :
    (vmod v i f)[i.val] = f v[i.val] := Vector.getElem_set_self i.isLt

theorem vmod_ne {α : Type} {n : Nat} (v : Vector α n) (i j : Fin n) (f : α → α) (h : j ≠ i) :
    (vmod v i f)[j.val] = v[j.val] :=
  Vector.getElem_set_ne i.isLt j.isLt fun e => h (Fin.ext e.symm)

theorem vmod_get {α : Type} {n : Nat} (v : Vector α n) (i j : Fin n) (f : α → α) :
    (vmod v i f)[j.val] = if j = i then f v[i.val] else v[j.val] := by
  split
  · next h => subst h; simp
  · next h => exact vmod_ne v i j f h

@[simp] theorem vmod_vmod {α : Type} {n : Nat} (v : Vector α n) (i : Fin n) (f g : α → α) :
    vmod (vmod v i f) i g = vmod v i fun x => g (f x) := by
  ext j hj
  simp only [vmod, Vector.getElem_set, Fin.getElem_fin]
  split <;> simp_all

theorem vmod_congr {α : Type} {n : Nat} (v : Vector α n) (i : Fin n) (f g : α → α) (h : f v[i.val] = g v[i.val]) :
    vmod v i f = vmod v i g := by
  simp only [vmod, Fin.getElem_fin, h]

theorem vmod_same {α : Type} {n : Nat} (v : Vector α n) (i : Fin n) (f : α → α) (h : f v[i.val] = v[i.val]) :
    vmod v i f = v := by
  simp only [vmod, Fin.getElem_fin, h, Vector.set_getElem_self]

/-! ## updScreen -/

section

variable (s : State) (i : Fin 6) (f : Screen → Screen)

@[simp] theorem State.updScreen_powered : (s.updScreen i f).powered = s.powered := rfl
@[simp] theorem State.updScreen_vbackup : (s.updScreen i f).vbackup = s.vbackup := rfl
@[simp] theorem State.updScreen_screens : (s.updScreen i f).screens = vmod s.screens i f := rfl
@[simp] theorem State.updScreen_strikeQueue : (s.updScreen i f).strikeQueue = s.strikeQueue := rfl
@[simp] theorem State.updScreen_spacing : (s.updScreen i f).spacing = s.spacing := rfl
@[simp] theorem State.updScreen_cues : (s.updScreen i f).cues = s.cues := rfl
@[simp] theorem State.updScreen_channels : (s.updScreen i f).channels = s.channels := rfl
@[simp] theorem State.updScreen_announce : (s.updScreen i f).announce = s.announce := rfl
@[simp] theorem State.updScreen_playWords : (s.updScreen i f).playWords = s.playWords := rfl
@[simp] theorem State.updScreen_doneLine : (s.updScreen i f).doneLine = s.doneLine := rfl
@[simp] theorem State.updScreen_lanes : (s.updScreen i f).lanes = s.lanes := rfl
@[simp] theorem State.updScreen_cars : (s.updScreen i f).cars = s.cars := rfl
@[simp] theorem State.updScreen_site : (s.updScreen i f).site = s.site := rfl
@[simp] theorem State.updScreen_book : (s.updScreen i f).book = s.book := rfl
@[simp] theorem State.updScreen_key : (s.updScreen i f).key = s.key := rfl
@[simp] theorem State.updScreen_kitchen : (s.updScreen i f).kitchen = s.kitchen := rfl
@[simp] theorem State.updScreen_orders : (s.updScreen i f).orders = s.orders := rfl
@[simp] theorem State.updScreen_link : (s.updScreen i f).link = s.link := rfl
@[simp] theorem State.updScreen_notices : (s.updScreen i f).notices = s.notices := rfl
@[simp] theorem State.updScreen_pending : (s.updScreen i f).pending = s.pending := rfl
@[simp] theorem State.updScreen_strapReads : (s.updScreen i f).strapReads = s.strapReads := rfl

end

/-! ## updCue -/

section

variable (s : State) (i : Fin 6) (f : CueUnit → CueUnit)

@[simp] theorem State.updCue_powered : (s.updCue i f).powered = s.powered := rfl
@[simp] theorem State.updCue_vbackup : (s.updCue i f).vbackup = s.vbackup := rfl
@[simp] theorem State.updCue_screens : (s.updCue i f).screens = s.screens := rfl
@[simp] theorem State.updCue_strikeQueue : (s.updCue i f).strikeQueue = s.strikeQueue := rfl
@[simp] theorem State.updCue_spacing : (s.updCue i f).spacing = s.spacing := rfl
@[simp] theorem State.updCue_cues : (s.updCue i f).cues = vmod s.cues i f := rfl
@[simp] theorem State.updCue_channels : (s.updCue i f).channels = s.channels := rfl
@[simp] theorem State.updCue_announce : (s.updCue i f).announce = s.announce := rfl
@[simp] theorem State.updCue_playWords : (s.updCue i f).playWords = s.playWords := rfl
@[simp] theorem State.updCue_doneLine : (s.updCue i f).doneLine = s.doneLine := rfl
@[simp] theorem State.updCue_lanes : (s.updCue i f).lanes = s.lanes := rfl
@[simp] theorem State.updCue_cars : (s.updCue i f).cars = s.cars := rfl
@[simp] theorem State.updCue_site : (s.updCue i f).site = s.site := rfl
@[simp] theorem State.updCue_book : (s.updCue i f).book = s.book := rfl
@[simp] theorem State.updCue_key : (s.updCue i f).key = s.key := rfl
@[simp] theorem State.updCue_kitchen : (s.updCue i f).kitchen = s.kitchen := rfl
@[simp] theorem State.updCue_orders : (s.updCue i f).orders = s.orders := rfl
@[simp] theorem State.updCue_link : (s.updCue i f).link = s.link := rfl
@[simp] theorem State.updCue_notices : (s.updCue i f).notices = s.notices := rfl
@[simp] theorem State.updCue_pending : (s.updCue i f).pending = s.pending := rfl
@[simp] theorem State.updCue_strapReads : (s.updCue i f).strapReads = s.strapReads := rfl

end

/-! ## updChannel -/

section

variable (s : State) (i : Fin 6) (f : Channel → Channel)

@[simp] theorem State.updChannel_powered : (s.updChannel i f).powered = s.powered := rfl
@[simp] theorem State.updChannel_vbackup : (s.updChannel i f).vbackup = s.vbackup := rfl
@[simp] theorem State.updChannel_screens : (s.updChannel i f).screens = s.screens := rfl
@[simp] theorem State.updChannel_strikeQueue : (s.updChannel i f).strikeQueue = s.strikeQueue := rfl
@[simp] theorem State.updChannel_spacing : (s.updChannel i f).spacing = s.spacing := rfl
@[simp] theorem State.updChannel_cues : (s.updChannel i f).cues = s.cues := rfl
@[simp] theorem State.updChannel_channels : (s.updChannel i f).channels = vmod s.channels i f := rfl
@[simp] theorem State.updChannel_announce : (s.updChannel i f).announce = s.announce := rfl
@[simp] theorem State.updChannel_playWords : (s.updChannel i f).playWords = s.playWords := rfl
@[simp] theorem State.updChannel_doneLine : (s.updChannel i f).doneLine = s.doneLine := rfl
@[simp] theorem State.updChannel_lanes : (s.updChannel i f).lanes = s.lanes := rfl
@[simp] theorem State.updChannel_cars : (s.updChannel i f).cars = s.cars := rfl
@[simp] theorem State.updChannel_site : (s.updChannel i f).site = s.site := rfl
@[simp] theorem State.updChannel_book : (s.updChannel i f).book = s.book := rfl
@[simp] theorem State.updChannel_key : (s.updChannel i f).key = s.key := rfl
@[simp] theorem State.updChannel_kitchen : (s.updChannel i f).kitchen = s.kitchen := rfl
@[simp] theorem State.updChannel_orders : (s.updChannel i f).orders = s.orders := rfl
@[simp] theorem State.updChannel_link : (s.updChannel i f).link = s.link := rfl
@[simp] theorem State.updChannel_notices : (s.updChannel i f).notices = s.notices := rfl
@[simp] theorem State.updChannel_pending : (s.updChannel i f).pending = s.pending := rfl
@[simp] theorem State.updChannel_strapReads : (s.updChannel i f).strapReads = s.strapReads := rfl

end

/-! ## updLane -/

section

variable (s : State) (i : Fin 8) (f : Lane → Lane)

@[simp] theorem State.updLane_powered : (s.updLane i f).powered = s.powered := rfl
@[simp] theorem State.updLane_vbackup : (s.updLane i f).vbackup = s.vbackup := rfl
@[simp] theorem State.updLane_screens : (s.updLane i f).screens = s.screens := rfl
@[simp] theorem State.updLane_strikeQueue : (s.updLane i f).strikeQueue = s.strikeQueue := rfl
@[simp] theorem State.updLane_spacing : (s.updLane i f).spacing = s.spacing := rfl
@[simp] theorem State.updLane_cues : (s.updLane i f).cues = s.cues := rfl
@[simp] theorem State.updLane_channels : (s.updLane i f).channels = s.channels := rfl
@[simp] theorem State.updLane_announce : (s.updLane i f).announce = s.announce := rfl
@[simp] theorem State.updLane_playWords : (s.updLane i f).playWords = s.playWords := rfl
@[simp] theorem State.updLane_doneLine : (s.updLane i f).doneLine = s.doneLine := rfl
@[simp] theorem State.updLane_lanes : (s.updLane i f).lanes = vmod s.lanes i f := rfl
@[simp] theorem State.updLane_cars : (s.updLane i f).cars = s.cars := rfl
@[simp] theorem State.updLane_site : (s.updLane i f).site = s.site := rfl
@[simp] theorem State.updLane_book : (s.updLane i f).book = s.book := rfl
@[simp] theorem State.updLane_key : (s.updLane i f).key = s.key := rfl
@[simp] theorem State.updLane_kitchen : (s.updLane i f).kitchen = s.kitchen := rfl
@[simp] theorem State.updLane_orders : (s.updLane i f).orders = s.orders := rfl
@[simp] theorem State.updLane_link : (s.updLane i f).link = s.link := rfl
@[simp] theorem State.updLane_notices : (s.updLane i f).notices = s.notices := rfl
@[simp] theorem State.updLane_pending : (s.updLane i f).pending = s.pending := rfl
@[simp] theorem State.updLane_strapReads : (s.updLane i f).strapReads = s.strapReads := rfl

end

/-! ## updRecord -/

section

variable (s : State) (i : Fin 16) (f : CountRecord → CountRecord)

@[simp] theorem State.updRecord_powered : (s.updRecord i f).powered = s.powered := rfl
@[simp] theorem State.updRecord_vbackup : (s.updRecord i f).vbackup = s.vbackup := rfl
@[simp] theorem State.updRecord_screens : (s.updRecord i f).screens = s.screens := rfl
@[simp] theorem State.updRecord_strikeQueue : (s.updRecord i f).strikeQueue = s.strikeQueue := rfl
@[simp] theorem State.updRecord_spacing : (s.updRecord i f).spacing = s.spacing := rfl
@[simp] theorem State.updRecord_cues : (s.updRecord i f).cues = s.cues := rfl
@[simp] theorem State.updRecord_channels : (s.updRecord i f).channels = s.channels := rfl
@[simp] theorem State.updRecord_announce : (s.updRecord i f).announce = s.announce := rfl
@[simp] theorem State.updRecord_playWords : (s.updRecord i f).playWords = s.playWords := rfl
@[simp] theorem State.updRecord_doneLine : (s.updRecord i f).doneLine = s.doneLine := rfl
@[simp] theorem State.updRecord_lanes : (s.updRecord i f).lanes = s.lanes := rfl
@[simp] theorem State.updRecord_cars : (s.updRecord i f).cars = s.cars := rfl
@[simp] theorem State.updRecord_site : (s.updRecord i f).site = s.site := rfl
@[simp] theorem State.updRecord_book :
    (s.updRecord i f).book = { s.book with records := vmod s.book.records i f } := rfl
@[simp] theorem State.updRecord_key : (s.updRecord i f).key = s.key := rfl
@[simp] theorem State.updRecord_kitchen : (s.updRecord i f).kitchen = s.kitchen := rfl
@[simp] theorem State.updRecord_orders : (s.updRecord i f).orders = s.orders := rfl
@[simp] theorem State.updRecord_link : (s.updRecord i f).link = s.link := rfl
@[simp] theorem State.updRecord_notices : (s.updRecord i f).notices = s.notices := rfl
@[simp] theorem State.updRecord_pending : (s.updRecord i f).pending = s.pending := rfl
@[simp] theorem State.updRecord_strapReads : (s.updRecord i f).strapReads = s.strapReads := rfl

end

/-! ## updItem -/

section

variable (s : State) (i : Fin 128) (f : Item → Item)

@[simp] theorem State.updItem_powered : (s.updItem i f).powered = s.powered := rfl
@[simp] theorem State.updItem_vbackup : (s.updItem i f).vbackup = s.vbackup := rfl
@[simp] theorem State.updItem_screens : (s.updItem i f).screens = s.screens := rfl
@[simp] theorem State.updItem_strikeQueue : (s.updItem i f).strikeQueue = s.strikeQueue := rfl
@[simp] theorem State.updItem_spacing : (s.updItem i f).spacing = s.spacing := rfl
@[simp] theorem State.updItem_cues : (s.updItem i f).cues = s.cues := rfl
@[simp] theorem State.updItem_channels : (s.updItem i f).channels = s.channels := rfl
@[simp] theorem State.updItem_announce : (s.updItem i f).announce = s.announce := rfl
@[simp] theorem State.updItem_playWords : (s.updItem i f).playWords = s.playWords := rfl
@[simp] theorem State.updItem_doneLine : (s.updItem i f).doneLine = s.doneLine := rfl
@[simp] theorem State.updItem_lanes : (s.updItem i f).lanes = s.lanes := rfl
@[simp] theorem State.updItem_cars : (s.updItem i f).cars = s.cars := rfl
@[simp] theorem State.updItem_site : (s.updItem i f).site = s.site := rfl
@[simp] theorem State.updItem_book : (s.updItem i f).book = s.book := rfl
@[simp] theorem State.updItem_key : (s.updItem i f).key = s.key := rfl
@[simp] theorem State.updItem_kitchen :
    (s.updItem i f).kitchen = { s.kitchen with menu := vmod s.kitchen.menu i f } := rfl
@[simp] theorem State.updItem_orders : (s.updItem i f).orders = s.orders := rfl
@[simp] theorem State.updItem_link : (s.updItem i f).link = s.link := rfl
@[simp] theorem State.updItem_notices : (s.updItem i f).notices = s.notices := rfl
@[simp] theorem State.updItem_pending : (s.updItem i f).pending = s.pending := rfl
@[simp] theorem State.updItem_strapReads : (s.updItem i f).strapReads = s.strapReads := rfl

end

/-! ## updStation -/

section

variable (s : State) (i : Fin 4) (f : Station → Station)

@[simp] theorem State.updStation_powered : (s.updStation i f).powered = s.powered := rfl
@[simp] theorem State.updStation_vbackup : (s.updStation i f).vbackup = s.vbackup := rfl
@[simp] theorem State.updStation_screens : (s.updStation i f).screens = s.screens := rfl
@[simp] theorem State.updStation_strikeQueue : (s.updStation i f).strikeQueue = s.strikeQueue := rfl
@[simp] theorem State.updStation_spacing : (s.updStation i f).spacing = s.spacing := rfl
@[simp] theorem State.updStation_cues : (s.updStation i f).cues = s.cues := rfl
@[simp] theorem State.updStation_channels : (s.updStation i f).channels = s.channels := rfl
@[simp] theorem State.updStation_announce : (s.updStation i f).announce = s.announce := rfl
@[simp] theorem State.updStation_playWords : (s.updStation i f).playWords = s.playWords := rfl
@[simp] theorem State.updStation_doneLine : (s.updStation i f).doneLine = s.doneLine := rfl
@[simp] theorem State.updStation_lanes : (s.updStation i f).lanes = s.lanes := rfl
@[simp] theorem State.updStation_cars : (s.updStation i f).cars = s.cars := rfl
@[simp] theorem State.updStation_site : (s.updStation i f).site = s.site := rfl
@[simp] theorem State.updStation_book : (s.updStation i f).book = s.book := rfl
@[simp] theorem State.updStation_key : (s.updStation i f).key = s.key := rfl
@[simp] theorem State.updStation_kitchen :
    (s.updStation i f).kitchen = { s.kitchen with stations := vmod s.kitchen.stations i f } := rfl
@[simp] theorem State.updStation_orders : (s.updStation i f).orders = s.orders := rfl
@[simp] theorem State.updStation_link : (s.updStation i f).link = s.link := rfl
@[simp] theorem State.updStation_notices : (s.updStation i f).notices = s.notices := rfl
@[simp] theorem State.updStation_pending : (s.updStation i f).pending = s.pending := rfl
@[simp] theorem State.updStation_strapReads : (s.updStation i f).strapReads = s.strapReads := rfl

end

/-! ## updHanded -/

section

variable (s : State) (i : Fin 2) (f : Button → Button)

@[simp] theorem State.updHanded_powered : (s.updHanded i f).powered = s.powered := rfl
@[simp] theorem State.updHanded_vbackup : (s.updHanded i f).vbackup = s.vbackup := rfl
@[simp] theorem State.updHanded_screens : (s.updHanded i f).screens = s.screens := rfl
@[simp] theorem State.updHanded_strikeQueue : (s.updHanded i f).strikeQueue = s.strikeQueue := rfl
@[simp] theorem State.updHanded_spacing : (s.updHanded i f).spacing = s.spacing := rfl
@[simp] theorem State.updHanded_cues : (s.updHanded i f).cues = s.cues := rfl
@[simp] theorem State.updHanded_channels : (s.updHanded i f).channels = s.channels := rfl
@[simp] theorem State.updHanded_announce : (s.updHanded i f).announce = s.announce := rfl
@[simp] theorem State.updHanded_playWords : (s.updHanded i f).playWords = s.playWords := rfl
@[simp] theorem State.updHanded_doneLine : (s.updHanded i f).doneLine = s.doneLine := rfl
@[simp] theorem State.updHanded_lanes : (s.updHanded i f).lanes = s.lanes := rfl
@[simp] theorem State.updHanded_cars : (s.updHanded i f).cars = s.cars := rfl
@[simp] theorem State.updHanded_site : (s.updHanded i f).site = s.site := rfl
@[simp] theorem State.updHanded_book : (s.updHanded i f).book = s.book := rfl
@[simp] theorem State.updHanded_key : (s.updHanded i f).key = s.key := rfl
@[simp] theorem State.updHanded_kitchen : (s.updHanded i f).kitchen = s.kitchen := rfl
@[simp] theorem State.updHanded_orders :
    (s.updHanded i f).orders = { s.orders with handed := vmod s.orders.handed i f } := rfl
@[simp] theorem State.updHanded_link : (s.updHanded i f).link = s.link := rfl
@[simp] theorem State.updHanded_notices : (s.updHanded i f).notices = s.notices := rfl
@[simp] theorem State.updHanded_pending : (s.updHanded i f).pending = s.pending := rfl
@[simp] theorem State.updHanded_strapReads : (s.updHanded i f).strapReads = s.strapReads := rfl

end

/-! ## updAnnounce -/

section

variable (s : State) (f : AnnouncePath → AnnouncePath)

@[simp] theorem State.updAnnounce_powered : (s.updAnnounce f).powered = s.powered := rfl
@[simp] theorem State.updAnnounce_vbackup : (s.updAnnounce f).vbackup = s.vbackup := rfl
@[simp] theorem State.updAnnounce_screens : (s.updAnnounce f).screens = s.screens := rfl
@[simp] theorem State.updAnnounce_strikeQueue : (s.updAnnounce f).strikeQueue = s.strikeQueue := rfl
@[simp] theorem State.updAnnounce_spacing : (s.updAnnounce f).spacing = s.spacing := rfl
@[simp] theorem State.updAnnounce_cues : (s.updAnnounce f).cues = s.cues := rfl
@[simp] theorem State.updAnnounce_channels : (s.updAnnounce f).channels = s.channels := rfl
@[simp] theorem State.updAnnounce_announce : (s.updAnnounce f).announce = f s.announce := rfl
@[simp] theorem State.updAnnounce_playWords : (s.updAnnounce f).playWords = s.playWords := rfl
@[simp] theorem State.updAnnounce_doneLine : (s.updAnnounce f).doneLine = s.doneLine := rfl
@[simp] theorem State.updAnnounce_lanes : (s.updAnnounce f).lanes = s.lanes := rfl
@[simp] theorem State.updAnnounce_cars : (s.updAnnounce f).cars = s.cars := rfl
@[simp] theorem State.updAnnounce_site : (s.updAnnounce f).site = s.site := rfl
@[simp] theorem State.updAnnounce_book : (s.updAnnounce f).book = s.book := rfl
@[simp] theorem State.updAnnounce_key : (s.updAnnounce f).key = s.key := rfl
@[simp] theorem State.updAnnounce_kitchen : (s.updAnnounce f).kitchen = s.kitchen := rfl
@[simp] theorem State.updAnnounce_orders : (s.updAnnounce f).orders = s.orders := rfl
@[simp] theorem State.updAnnounce_link : (s.updAnnounce f).link = s.link := rfl
@[simp] theorem State.updAnnounce_notices : (s.updAnnounce f).notices = s.notices := rfl
@[simp] theorem State.updAnnounce_pending : (s.updAnnounce f).pending = s.pending := rfl
@[simp] theorem State.updAnnounce_strapReads : (s.updAnnounce f).strapReads = s.strapReads := rfl

end

/-! ## updOrders -/

section

variable (s : State) (f : OrderUnit → OrderUnit)

@[simp] theorem State.updOrders_powered : (s.updOrders f).powered = s.powered := rfl
@[simp] theorem State.updOrders_vbackup : (s.updOrders f).vbackup = s.vbackup := rfl
@[simp] theorem State.updOrders_screens : (s.updOrders f).screens = s.screens := rfl
@[simp] theorem State.updOrders_strikeQueue : (s.updOrders f).strikeQueue = s.strikeQueue := rfl
@[simp] theorem State.updOrders_spacing : (s.updOrders f).spacing = s.spacing := rfl
@[simp] theorem State.updOrders_cues : (s.updOrders f).cues = s.cues := rfl
@[simp] theorem State.updOrders_channels : (s.updOrders f).channels = s.channels := rfl
@[simp] theorem State.updOrders_announce : (s.updOrders f).announce = s.announce := rfl
@[simp] theorem State.updOrders_playWords : (s.updOrders f).playWords = s.playWords := rfl
@[simp] theorem State.updOrders_doneLine : (s.updOrders f).doneLine = s.doneLine := rfl
@[simp] theorem State.updOrders_lanes : (s.updOrders f).lanes = s.lanes := rfl
@[simp] theorem State.updOrders_cars : (s.updOrders f).cars = s.cars := rfl
@[simp] theorem State.updOrders_site : (s.updOrders f).site = s.site := rfl
@[simp] theorem State.updOrders_book : (s.updOrders f).book = s.book := rfl
@[simp] theorem State.updOrders_key : (s.updOrders f).key = s.key := rfl
@[simp] theorem State.updOrders_kitchen : (s.updOrders f).kitchen = s.kitchen := rfl
@[simp] theorem State.updOrders_orders : (s.updOrders f).orders = f s.orders := rfl
@[simp] theorem State.updOrders_link : (s.updOrders f).link = s.link := rfl
@[simp] theorem State.updOrders_notices : (s.updOrders f).notices = s.notices := rfl
@[simp] theorem State.updOrders_pending : (s.updOrders f).pending = s.pending := rfl
@[simp] theorem State.updOrders_strapReads : (s.updOrders f).strapReads = s.strapReads := rfl

end

/-! ## updLink -/

section

variable (s : State) (f : Link → Link)

@[simp] theorem State.updLink_powered : (s.updLink f).powered = s.powered := rfl
@[simp] theorem State.updLink_vbackup : (s.updLink f).vbackup = s.vbackup := rfl
@[simp] theorem State.updLink_screens : (s.updLink f).screens = s.screens := rfl
@[simp] theorem State.updLink_strikeQueue : (s.updLink f).strikeQueue = s.strikeQueue := rfl
@[simp] theorem State.updLink_spacing : (s.updLink f).spacing = s.spacing := rfl
@[simp] theorem State.updLink_cues : (s.updLink f).cues = s.cues := rfl
@[simp] theorem State.updLink_channels : (s.updLink f).channels = s.channels := rfl
@[simp] theorem State.updLink_announce : (s.updLink f).announce = s.announce := rfl
@[simp] theorem State.updLink_playWords : (s.updLink f).playWords = s.playWords := rfl
@[simp] theorem State.updLink_doneLine : (s.updLink f).doneLine = s.doneLine := rfl
@[simp] theorem State.updLink_lanes : (s.updLink f).lanes = s.lanes := rfl
@[simp] theorem State.updLink_cars : (s.updLink f).cars = s.cars := rfl
@[simp] theorem State.updLink_site : (s.updLink f).site = s.site := rfl
@[simp] theorem State.updLink_book : (s.updLink f).book = s.book := rfl
@[simp] theorem State.updLink_key : (s.updLink f).key = s.key := rfl
@[simp] theorem State.updLink_kitchen : (s.updLink f).kitchen = s.kitchen := rfl
@[simp] theorem State.updLink_orders : (s.updLink f).orders = s.orders := rfl
@[simp] theorem State.updLink_link : (s.updLink f).link = f s.link := rfl
@[simp] theorem State.updLink_notices : (s.updLink f).notices = s.notices := rfl
@[simp] theorem State.updLink_pending : (s.updLink f).pending = s.pending := rfl
@[simp] theorem State.updLink_strapReads : (s.updLink f).strapReads = s.strapReads := rfl

end

/-! ## updCar -/

section

variable (s : State) (tag : Nat) (f : Car → Car)

@[simp] theorem State.updCar_powered : (s.updCar tag f).powered = s.powered := rfl
@[simp] theorem State.updCar_vbackup : (s.updCar tag f).vbackup = s.vbackup := rfl
@[simp] theorem State.updCar_screens : (s.updCar tag f).screens = s.screens := rfl
@[simp] theorem State.updCar_strikeQueue : (s.updCar tag f).strikeQueue = s.strikeQueue := rfl
@[simp] theorem State.updCar_spacing : (s.updCar tag f).spacing = s.spacing := rfl
@[simp] theorem State.updCar_cues : (s.updCar tag f).cues = s.cues := rfl
@[simp] theorem State.updCar_channels : (s.updCar tag f).channels = s.channels := rfl
@[simp] theorem State.updCar_announce : (s.updCar tag f).announce = s.announce := rfl
@[simp] theorem State.updCar_playWords : (s.updCar tag f).playWords = s.playWords := rfl
@[simp] theorem State.updCar_doneLine : (s.updCar tag f).doneLine = s.doneLine := rfl
@[simp] theorem State.updCar_lanes : (s.updCar tag f).lanes = s.lanes := rfl
@[simp] theorem State.updCar_cars : (s.updCar tag f).cars = s.cars.map fun c => if c.tag == tag then f c else c := rfl
@[simp] theorem State.updCar_site : (s.updCar tag f).site = s.site := rfl
@[simp] theorem State.updCar_book : (s.updCar tag f).book = s.book := rfl
@[simp] theorem State.updCar_key : (s.updCar tag f).key = s.key := rfl
@[simp] theorem State.updCar_kitchen : (s.updCar tag f).kitchen = s.kitchen := rfl
@[simp] theorem State.updCar_orders : (s.updCar tag f).orders = s.orders := rfl
@[simp] theorem State.updCar_link : (s.updCar tag f).link = s.link := rfl
@[simp] theorem State.updCar_notices : (s.updCar tag f).notices = s.notices := rfl
@[simp] theorem State.updCar_pending : (s.updCar tag f).pending = s.pending := rfl
@[simp] theorem State.updCar_strapReads : (s.updCar tag f).strapReads = s.strapReads := rfl

end

/-! ## removeCar -/

section

variable (s : State) (tag : Nat)

@[simp] theorem State.removeCar_powered : (s.removeCar tag).powered = s.powered := rfl
@[simp] theorem State.removeCar_vbackup : (s.removeCar tag).vbackup = s.vbackup := rfl
@[simp] theorem State.removeCar_screens : (s.removeCar tag).screens = s.screens := rfl
@[simp] theorem State.removeCar_strikeQueue : (s.removeCar tag).strikeQueue = s.strikeQueue := rfl
@[simp] theorem State.removeCar_spacing : (s.removeCar tag).spacing = s.spacing := rfl
@[simp] theorem State.removeCar_cues : (s.removeCar tag).cues = s.cues := rfl
@[simp] theorem State.removeCar_channels : (s.removeCar tag).channels = s.channels := rfl
@[simp] theorem State.removeCar_announce : (s.removeCar tag).announce = s.announce := rfl
@[simp] theorem State.removeCar_playWords : (s.removeCar tag).playWords = s.playWords := rfl
@[simp] theorem State.removeCar_doneLine : (s.removeCar tag).doneLine = s.doneLine := rfl
@[simp] theorem State.removeCar_lanes : (s.removeCar tag).lanes = s.lanes := rfl
@[simp] theorem State.removeCar_cars : (s.removeCar tag).cars = s.cars.filter (·.tag != tag) := rfl
@[simp] theorem State.removeCar_site : (s.removeCar tag).site = s.site := rfl
@[simp] theorem State.removeCar_book : (s.removeCar tag).book = s.book := rfl
@[simp] theorem State.removeCar_key : (s.removeCar tag).key = s.key := rfl
@[simp] theorem State.removeCar_kitchen : (s.removeCar tag).kitchen = s.kitchen := rfl
@[simp] theorem State.removeCar_orders : (s.removeCar tag).orders = s.orders := rfl
@[simp] theorem State.removeCar_link : (s.removeCar tag).link = s.link := rfl
@[simp] theorem State.removeCar_notices : (s.removeCar tag).notices = s.notices := rfl
@[simp] theorem State.removeCar_pending : (s.removeCar tag).pending = s.pending := rfl
@[simp] theorem State.removeCar_strapReads : (s.removeCar tag).strapReads = s.strapReads := rfl

end

/-! ## updOrder -/

section

variable (s : State) (number : Nat) (f : Order → Order)

@[simp] theorem State.updOrder_powered : (s.updOrder number f).powered = s.powered := rfl
@[simp] theorem State.updOrder_vbackup : (s.updOrder number f).vbackup = s.vbackup := rfl
@[simp] theorem State.updOrder_screens : (s.updOrder number f).screens = s.screens := rfl
@[simp] theorem State.updOrder_strikeQueue : (s.updOrder number f).strikeQueue = s.strikeQueue := rfl
@[simp] theorem State.updOrder_spacing : (s.updOrder number f).spacing = s.spacing := rfl
@[simp] theorem State.updOrder_cues : (s.updOrder number f).cues = s.cues := rfl
@[simp] theorem State.updOrder_channels : (s.updOrder number f).channels = s.channels := rfl
@[simp] theorem State.updOrder_announce : (s.updOrder number f).announce = s.announce := rfl
@[simp] theorem State.updOrder_playWords : (s.updOrder number f).playWords = s.playWords := rfl
@[simp] theorem State.updOrder_doneLine : (s.updOrder number f).doneLine = s.doneLine := rfl
@[simp] theorem State.updOrder_lanes : (s.updOrder number f).lanes = s.lanes := rfl
@[simp] theorem State.updOrder_cars : (s.updOrder number f).cars = s.cars := rfl
@[simp] theorem State.updOrder_site : (s.updOrder number f).site = s.site := rfl
@[simp] theorem State.updOrder_book : (s.updOrder number f).book = s.book := rfl
@[simp] theorem State.updOrder_key : (s.updOrder number f).key = s.key := rfl
@[simp] theorem State.updOrder_kitchen : (s.updOrder number f).kitchen = s.kitchen := rfl
@[simp] theorem State.updOrder_orders :
    (s.updOrder number f).orders = { s.orders with table := s.orders.table.map fun o => if o.number == number then f o else o } := rfl
@[simp] theorem State.updOrder_link : (s.updOrder number f).link = s.link := rfl
@[simp] theorem State.updOrder_notices : (s.updOrder number f).notices = s.notices := rfl
@[simp] theorem State.updOrder_pending : (s.updOrder number f).pending = s.pending := rfl
@[simp] theorem State.updOrder_strapReads : (s.updOrder number f).strapReads = s.strapReads := rfl

end

/-! ## removeOrder -/

section

variable (s : State) (number : Nat)

@[simp] theorem State.removeOrder_powered : (s.removeOrder number).powered = s.powered := rfl
@[simp] theorem State.removeOrder_vbackup : (s.removeOrder number).vbackup = s.vbackup := rfl
@[simp] theorem State.removeOrder_screens : (s.removeOrder number).screens = s.screens := rfl
@[simp] theorem State.removeOrder_strikeQueue : (s.removeOrder number).strikeQueue = s.strikeQueue := rfl
@[simp] theorem State.removeOrder_spacing : (s.removeOrder number).spacing = s.spacing := rfl
@[simp] theorem State.removeOrder_cues : (s.removeOrder number).cues = s.cues := rfl
@[simp] theorem State.removeOrder_channels : (s.removeOrder number).channels = s.channels := rfl
@[simp] theorem State.removeOrder_announce : (s.removeOrder number).announce = s.announce := rfl
@[simp] theorem State.removeOrder_playWords : (s.removeOrder number).playWords = s.playWords := rfl
@[simp] theorem State.removeOrder_doneLine : (s.removeOrder number).doneLine = s.doneLine := rfl
@[simp] theorem State.removeOrder_lanes : (s.removeOrder number).lanes = s.lanes := rfl
@[simp] theorem State.removeOrder_cars : (s.removeOrder number).cars = s.cars := rfl
@[simp] theorem State.removeOrder_site : (s.removeOrder number).site = s.site := rfl
@[simp] theorem State.removeOrder_book : (s.removeOrder number).book = s.book := rfl
@[simp] theorem State.removeOrder_key : (s.removeOrder number).key = s.key := rfl
@[simp] theorem State.removeOrder_kitchen : (s.removeOrder number).kitchen = s.kitchen := rfl
@[simp] theorem State.removeOrder_orders :
    (s.removeOrder number).orders = { s.orders with table := s.orders.table.filter (·.number != number) } := rfl
@[simp] theorem State.removeOrder_link : (s.removeOrder number).link = s.link := rfl
@[simp] theorem State.removeOrder_notices : (s.removeOrder number).notices = s.notices := rfl
@[simp] theorem State.removeOrder_pending : (s.removeOrder number).pending = s.pending := rfl
@[simp] theorem State.removeOrder_strapReads : (s.removeOrder number).strapReads = s.strapReads := rfl

end

/-! ## post -/

section

variable (s : State) (subject : Nat) (record : ReportRecord)

@[simp] theorem State.post_powered : (s.post subject record).powered = s.powered := rfl
@[simp] theorem State.post_vbackup : (s.post subject record).vbackup = s.vbackup := rfl
@[simp] theorem State.post_screens : (s.post subject record).screens = s.screens := rfl
@[simp] theorem State.post_strikeQueue : (s.post subject record).strikeQueue = s.strikeQueue := rfl
@[simp] theorem State.post_spacing : (s.post subject record).spacing = s.spacing := rfl
@[simp] theorem State.post_cues : (s.post subject record).cues = s.cues := rfl
@[simp] theorem State.post_channels : (s.post subject record).channels = s.channels := rfl
@[simp] theorem State.post_announce : (s.post subject record).announce = s.announce := rfl
@[simp] theorem State.post_playWords : (s.post subject record).playWords = s.playWords := rfl
@[simp] theorem State.post_doneLine : (s.post subject record).doneLine = s.doneLine := rfl
@[simp] theorem State.post_lanes : (s.post subject record).lanes = s.lanes := rfl
@[simp] theorem State.post_cars : (s.post subject record).cars = s.cars := rfl
@[simp] theorem State.post_site : (s.post subject record).site = s.site := rfl
@[simp] theorem State.post_book : (s.post subject record).book = s.book := rfl
@[simp] theorem State.post_key : (s.post subject record).key = s.key := rfl
@[simp] theorem State.post_kitchen : (s.post subject record).kitchen = s.kitchen := rfl
@[simp] theorem State.post_orders : (s.post subject record).orders = s.orders := rfl
@[simp] theorem State.post_link :
    (s.post subject record).link = s.link.postReport ⟨s.book.siteTime, subject, record⟩ := rfl
@[simp] theorem State.post_notices : (s.post subject record).notices = s.notices := rfl
@[simp] theorem State.post_pending : (s.post subject record).pending = s.pending := rfl
@[simp] theorem State.post_strapReads : (s.post subject record).strapReads = s.strapReads := rfl

end

/-! ## hand -/

section

variable (s : State) (n : Notice)

@[simp] theorem State.hand_powered : (s.hand n).powered = s.powered := rfl
@[simp] theorem State.hand_vbackup : (s.hand n).vbackup = s.vbackup := rfl
@[simp] theorem State.hand_screens : (s.hand n).screens = s.screens := rfl
@[simp] theorem State.hand_strikeQueue : (s.hand n).strikeQueue = s.strikeQueue := rfl
@[simp] theorem State.hand_spacing : (s.hand n).spacing = s.spacing := rfl
@[simp] theorem State.hand_cues : (s.hand n).cues = s.cues := rfl
@[simp] theorem State.hand_channels : (s.hand n).channels = s.channels := rfl
@[simp] theorem State.hand_announce : (s.hand n).announce = s.announce := rfl
@[simp] theorem State.hand_playWords : (s.hand n).playWords = s.playWords := rfl
@[simp] theorem State.hand_doneLine : (s.hand n).doneLine = s.doneLine := rfl
@[simp] theorem State.hand_lanes : (s.hand n).lanes = s.lanes := rfl
@[simp] theorem State.hand_cars : (s.hand n).cars = s.cars := rfl
@[simp] theorem State.hand_site : (s.hand n).site = s.site := rfl
@[simp] theorem State.hand_book : (s.hand n).book = s.book := rfl
@[simp] theorem State.hand_key : (s.hand n).key = s.key := rfl
@[simp] theorem State.hand_kitchen : (s.hand n).kitchen = s.kitchen := rfl
@[simp] theorem State.hand_orders : (s.hand n).orders = s.orders := rfl
@[simp] theorem State.hand_link : (s.hand n).link = s.link := rfl
@[simp] theorem State.hand_notices : (s.hand n).notices = s.notices ++ [n] := rfl
@[simp] theorem State.hand_pending : (s.hand n).pending = s.pending := rfl
@[simp] theorem State.hand_strapReads : (s.hand n).strapReads = s.strapReads := rfl

end

/-! ## takeNotice -/

section

variable (s : State) (n : Notice)

@[simp] theorem State.takeNotice_powered : (s.takeNotice n).powered = s.powered := rfl
@[simp] theorem State.takeNotice_vbackup : (s.takeNotice n).vbackup = s.vbackup := rfl
@[simp] theorem State.takeNotice_screens : (s.takeNotice n).screens = s.screens := rfl
@[simp] theorem State.takeNotice_strikeQueue : (s.takeNotice n).strikeQueue = s.strikeQueue := rfl
@[simp] theorem State.takeNotice_spacing : (s.takeNotice n).spacing = s.spacing := rfl
@[simp] theorem State.takeNotice_cues : (s.takeNotice n).cues = s.cues := rfl
@[simp] theorem State.takeNotice_channels : (s.takeNotice n).channels = s.channels := rfl
@[simp] theorem State.takeNotice_announce : (s.takeNotice n).announce = s.announce := rfl
@[simp] theorem State.takeNotice_playWords : (s.takeNotice n).playWords = s.playWords := rfl
@[simp] theorem State.takeNotice_doneLine : (s.takeNotice n).doneLine = s.doneLine := rfl
@[simp] theorem State.takeNotice_lanes : (s.takeNotice n).lanes = s.lanes := rfl
@[simp] theorem State.takeNotice_cars : (s.takeNotice n).cars = s.cars := rfl
@[simp] theorem State.takeNotice_site : (s.takeNotice n).site = s.site := rfl
@[simp] theorem State.takeNotice_book : (s.takeNotice n).book = s.book := rfl
@[simp] theorem State.takeNotice_key : (s.takeNotice n).key = s.key := rfl
@[simp] theorem State.takeNotice_kitchen : (s.takeNotice n).kitchen = s.kitchen := rfl
@[simp] theorem State.takeNotice_orders : (s.takeNotice n).orders = s.orders := rfl
@[simp] theorem State.takeNotice_link : (s.takeNotice n).link = s.link := rfl
@[simp] theorem State.takeNotice_notices : (s.takeNotice n).notices = s.notices.erase n := rfl
@[simp] theorem State.takeNotice_pending : (s.takeNotice n).pending = s.pending := rfl
@[simp] theorem State.takeNotice_strapReads : (s.takeNotice n).strapReads = s.strapReads := rfl

end

end Sys2Proof.Machine
end

