-- ==== Sys2Proof/Laws/Frames.lean ====
section
/-! SUPPORT. What the shared operations can change, said once for each: an operation's frame is the list of blocks it may
touch, so that a proof about the others cites the frame and never unfolds the operation. -/

namespace Sys2Proof.Machine

/-! ## Folds -/

/-- What holds between a state and the next at each step of a fold holds over the whole fold. -/
theorem foldl_related {α : Type} (R : State → State → Prop) (refl : ∀ s, R s s)
    (trans : ∀ {a b c}, R a b → R b c → R a c) (f : State → α → State) (h : ∀ s x, R s (f s x)) (xs : List α) (s : State) :
    R s (xs.foldl f s) := by
  induction xs generalizing s with
  | nil => exact refl s
  | cons x xs ih => exact trans (h s x) (ih _)

/-! ## The announce path's frame -/

/-- Only the announce path, the channels, PLAY, the link and the notices may differ. -/
def AnnounceFrame (s t : State) : Prop :=
  ∃ a ch w l n, t = { s with announce := a, channels := ch, playWords := w, link := l, notices := n }

namespace AnnounceFrame

theorem refl (s : State) : AnnounceFrame s s := ⟨_, _, _, _, _, rfl⟩

theorem trans {a b c : State} (h : AnnounceFrame a b) (k : AnnounceFrame b c) : AnnounceFrame a c := by
  obtain ⟨_, _, _, _, _, rfl⟩ := h
  obtain ⟨_, _, _, _, _, rfl⟩ := k
  exact ⟨_, _, _, _, _, rfl⟩

section

variable {s t : State} (h : AnnounceFrame s t)
include h

theorem powered : t.powered = s.powered := by obtain ⟨_, _, _, _, _, rfl⟩ := h; rfl
theorem vbackup : t.vbackup = s.vbackup := by obtain ⟨_, _, _, _, _, rfl⟩ := h; rfl
theorem screens : t.screens = s.screens := by obtain ⟨_, _, _, _, _, rfl⟩ := h; rfl
theorem strikeQueue : t.strikeQueue = s.strikeQueue := by obtain ⟨_, _, _, _, _, rfl⟩ := h; rfl
theorem spacing : t.spacing = s.spacing := by obtain ⟨_, _, _, _, _, rfl⟩ := h; rfl
theorem cues : t.cues = s.cues := by obtain ⟨_, _, _, _, _, rfl⟩ := h; rfl
theorem lanes : t.lanes = s.lanes := by obtain ⟨_, _, _, _, _, rfl⟩ := h; rfl
theorem cars : t.cars = s.cars := by obtain ⟨_, _, _, _, _, rfl⟩ := h; rfl
theorem site : t.site = s.site := by obtain ⟨_, _, _, _, _, rfl⟩ := h; rfl
theorem book : t.book = s.book := by obtain ⟨_, _, _, _, _, rfl⟩ := h; rfl
theorem kitchen : t.kitchen = s.kitchen := by obtain ⟨_, _, _, _, _, rfl⟩ := h; rfl
theorem orders : t.orders = s.orders := by obtain ⟨_, _, _, _, _, rfl⟩ := h; rfl
theorem policies (i : Fin 6) : t.policies i = s.policies i := by simp only [State.policies, h.screens]

end

end AnnounceFrame

theorem State.post_frame (s : State) (subject : Nat) (r : ReportRecord) : AnnounceFrame s (s.post subject r) :=
  ⟨_, _, _, _, _, rfl⟩

theorem State.hand_frame (s : State) (n : Notice) : AnnounceFrame s (s.hand n) := ⟨_, _, _, _, _, rfl⟩

theorem State.sendPlay_frame (s : State) (w : PlayWord) : AnnounceFrame s (s.sendPlay w) := ⟨_, _, _, _, _, rfl⟩

theorem State.updAnnounce_frame (s : State) (f : AnnouncePath → AnnouncePath) : AnnounceFrame s (s.updAnnounce f) :=
  ⟨_, _, _, _, _, rfl⟩

theorem State.putChannel_frame (s : State) (i : Fin 6) (c : Channel) : AnnounceFrame s (s.putChannel i c) := by
  unfold State.putChannel
  dsimp only
  split
  · exact ⟨_, _, _, _, _, rfl⟩
  · exact ⟨_, _, _, _, _, rfl⟩

theorem State.setMode_frame (s : State) (m : DuckMode) (i : Fin 6) : AnnounceFrame s (s.setMode m i) :=
  s.putChannel_frame i _

theorem State.setFeed_frame (s : State) (b : Bool) (i : Fin 6) : AnnounceFrame s (s.setFeed b i) := ⟨_, _, _, _, _, rfl⟩

theorem State.enterPlaying_frame (s : State) (r : OnAir) : AnnounceFrame s (s.enterPlaying r) := by
  unfold State.enterPlaying
  exact (((s.updAnnounce_frame _).trans
    (foldl_related AnnounceFrame .refl .trans _ (fun s i => s.setFeed_frame true i) _ _)).trans
      (State.sendPlay_frame _ _)).trans (State.post_frame _ _ _)

theorem State.testPlaying_frame (s : State) (r : OnAir) : AnnounceFrame s (s.testPlaying r) := by
  unfold State.testPlaying
  split
  · exact s.enterPlaying_frame r
  · exact .refl s

theorem State.grantEntry_frame (s : State) (place : Nat) (e : Entry) : AnnounceFrame s (s.grantEntry place e) := by
  have h := (s.updAnnounce_frame fun a => { a with
    queue := queueAfterGrant a.queue place e (e.targets.filter fun i => !((s.policies i).announce.takes e.priority))
    onAir := some (e.granted (s.eligible e)), state := .ducking }).trans
      ((foldl_related AnnounceFrame .refl .trans (fun s i => s.setMode .level i)
        (fun s i => s.setMode_frame .level i) (s.eligible e) _).trans
          (State.testPlaying_frame _ (e.granted (s.eligible e))))
  unfold State.grantEntry
  dsimp only
  split
  · exact h.trans (State.hand_frame _ _)
  · exact h

/-- The grant touches the announce path, the channels, PLAY, the report queue and the notices alone. -/
theorem State.grant_frame (s : State) : AnnounceFrame s s.grant := by
  unfold State.grant
  split
  · split
    · exact .refl s
    · exact s.grantEntry_frame _ _
  all_goals exact .refl s

/-- An enqueue touches what the grant touches. -/
theorem State.enqueue_frame (s : State) (k : EntryKind) (p : Nat) (ts : List (Fin 6)) (clip : Nat) (tag order : Option Nat) :
    AnnounceFrame s (s.enqueue k p ts clip tag order).2 := by
  unfold State.enqueue
  split
  · exact (s.updAnnounce_frame _).trans (State.grant_frame _)
  · exact .refl s

theorem State.emptySlot_frame (s : State) : AnnounceFrame s s.emptySlot := ⟨_, _, _, _, _, rfl⟩

theorem State.releaseChannels_frame (s : State) (r : OnAir) : AnnounceFrame s (s.releaseChannels r) :=
  foldl_related AnnounceFrame .refl .trans _ (fun s i => (s.setMode_frame .unity i).trans (State.setFeed_frame _ _ _)) _ _

theorem State.handCallPlayed_frame (s : State) (r : OnAir) (o : PlayOutcome) : AnnounceFrame s (s.handCallPlayed r o) := by
  unfold State.handCallPlayed
  split
  · exact s.hand_frame _
  · exact .refl s

theorem State.vacate_frame (s : State) (r : OnAir) : AnnounceFrame s (s.vacate r) :=
  ((s.emptySlot_frame).trans (State.releaseChannels_frame _ _)).trans (State.grant_frame _)

theorem State.reportDone_frame (s : State) (r : OnAir) (o : PlayOutcome) : AnnounceFrame s (s.reportDone r o) :=
  s.post_frame _ _

theorem State.endPlay_frame (s : State) (r : OnAir) (o : PlayOutcome) : AnnounceFrame s (s.endPlay r o) := by
  unfold State.endPlay
  exact ((s.reportDone_frame _ _).trans (State.handCallPlayed_frame _ _ _)).trans (State.vacate_frame _ _)

theorem State.cancelOnAir_frame (s : State) (r : OnAir) : AnnounceFrame s (s.cancelOnAir r) := by
  unfold State.cancelOnAir
  dsimp only
  refine AnnounceFrame.trans (b := if s.announce.state = .playing then s.sendPlay .stop else s) ?_ ?_
  · split
    · exact s.sendPlay_frame _
    · exact .refl s
  · exact (State.reportDone_frame _ _ _).trans (State.vacate_frame _ _)

theorem State.withdraw_frame (s : State) (n : Nat) : AnnounceFrame s (s.withdraw n) := by
  unfold State.withdraw
  split
  · exact (s.updAnnounce_frame _).trans (State.hand_frame _ _)
  · exact .refl s

/-! ## What the grant reads

The grant's choice reads the announce path, the channels and the screens, and not the link, PLAY or the notices; so the
ANNOUNCE_DONE report of an event does not bear on its own remainder mark. -/

/-- The same announce path, channels and screens. -/
def SameAir (s t : State) : Prop := s.announce = t.announce ∧ s.channels = t.channels ∧ s.screens = t.screens

namespace SameAir

variable {s t : State}

theorem of_post (s : State) (subject : Nat) (r : ReportRecord) : SameAir (s.post subject r) s := ⟨rfl, rfl, rfl⟩

theorem hand (h : SameAir s t) (n m : Notice) : SameAir (s.hand n) (t.hand m) := h

theorem putChannel (h : SameAir s t) (i : Fin 6) (c : Channel) : SameAir (s.putChannel i c) (t.putChannel i c) := by
  obtain ⟨ha, hc, hs⟩ := h
  unfold State.putChannel SameAir
  rw [hc]
  dsimp only
  split <;> simp [State.hand, State.updChannel, ha, hc, hs]

theorem setMode (h : SameAir s t) (m : DuckMode) (i : Fin 6) : SameAir (s.setMode m i) (t.setMode m i) := by
  unfold State.setMode
  rw [h.2.1]
  exact h.putChannel i _

theorem setFeed (h : SameAir s t) (b : Bool) (i : Fin 6) : SameAir (s.setFeed b i) (t.setFeed b i) := by
  obtain ⟨ha, hc, hs⟩ := h
  simp [SameAir, State.setFeed, State.updChannel, ha, hc, hs]

theorem foldl (f : State → Fin 6 → State) (hf : ∀ {a b : State} (i : Fin 6), SameAir a b → SameAir (f a i) (f b i))
    (h : SameAir s t) (is : List (Fin 6)) : SameAir (is.foldl f s) (is.foldl f t) := by
  induction is generalizing s t with
  | nil => exact h
  | cons i is ih => exact ih (hf i h)

theorem updAnnounce (h : SameAir s t) (f : AnnouncePath → AnnouncePath) : SameAir (s.updAnnounce f) (t.updAnnounce f) := by
  obtain ⟨ha, hc, hs⟩ := h
  simp [SameAir, State.updAnnounce, ha, hc, hs]

theorem testPlaying (h : SameAir s t) (r : OnAir) : SameAir (s.testPlaying r) (t.testPlaying r) := by
  have e : s.allAtLevel r = t.allAtLevel r := by simp only [State.allAtLevel, h.2.1]
  unfold State.testPlaying
  rw [e]
  split
  · exact (h.updAnnounce _).foldl _ (fun i k => k.setFeed true i) r.granted
  · exact h

theorem policies (h : SameAir s t) (i : Fin 6) : s.policies i = t.policies i := by simp only [State.policies, h.2.2]

theorem eligible (h : SameAir s t) (e : Entry) : s.eligible e = t.eligible e := by simp only [State.eligible, h.policies]

theorem grantEntry (h : SameAir s t) (place : Nat) (e : Entry) : SameAir (s.grantEntry place e) (t.grantEntry place e) := by
  unfold State.grantEntry
  simp only [h.eligible, h.policies]
  have k := ((h.updAnnounce fun a => { a with
    queue := queueAfterGrant a.queue place e (e.targets.filter fun i => !((t.policies i).announce.takes e.priority))
    onAir := some (e.granted (t.eligible e)), state := .ducking }).foldl _ (fun i k => k.setMode .level i)
      (t.eligible e)).testPlaying (e.granted (t.eligible e))
  split
  · exact k.hand _ _
  · exact k

theorem grant (h : SameAir s t) : SameAir s.grant t.grant := by
  unfold State.grant
  simp only [h.1, h.eligible]
  split
  · split
    · exact h
    · exact h.grantEntry _ _
  all_goals exact h

theorem vacate (h : SameAir s t) (r : OnAir) : SameAir (s.vacate r) (t.vacate r) :=
  ((h.updAnnounce _).foldl _ (fun i k => (k.setMode .unity i).setFeed false i) r.granted).grant

end SameAir

/-- The remainder mark of an ANNOUNCE_DONE is the one of the state that its event leaves (R80, R190). -/
theorem State.endPlay_remainder (s : State) (r : OnAir) (o : PlayOutcome) :
    s.reportDone r o = s.post r.subject (.playDone r o ((s.endPlay r o).remainderWaits r.number)) := by
  have h : SameAir ((s.reportDone r o).handCallPlayed r o) s := by
    unfold State.handCallPlayed
    split <;> exact ⟨rfl, rfl, rfl⟩
  have e := (h.vacate r).1
  unfold State.reportDone State.endPlay State.remainderWaits
  rw [← e]

/-! ## Cues -/

/-- The announce path's frame and cue line levels and timers; every cue table stays. -/
def CueFrame (s t : State) : Prop :=
  ∃ cues u, AnnounceFrame s u ∧ t = { u with cues := cues } ∧ ∀ i : Fin 6, cues[i.val].table = s.cues[i.val].table

namespace CueFrame

theorem of {s t : State} (h : AnnounceFrame s t) : CueFrame s t := ⟨t.cues, t, h, rfl, fun _ => by rw [h.cues]⟩

theorem refl (s : State) : CueFrame s s := of (.refl s)

theorem trans {a b c : State} (h : CueFrame a b) (k : CueFrame b c) : CueFrame a c := by
  obtain ⟨cb, ub, hb, rfl, tb⟩ := h
  obtain ⟨cc, uc, hc, rfl, tc⟩ := k
  obtain ⟨_, _, _, _, _, rfl⟩ := hb
  obtain ⟨_, _, _, _, _, rfl⟩ := hc
  exact ⟨cc, _, ⟨_, _, _, _, _, rfl⟩, rfl, fun i => (tc i).trans (tb i)⟩

section

variable {s t : State} (h : CueFrame s t)
include h

theorem powered : t.powered = s.powered := by obtain ⟨_, _, h, rfl, _⟩ := h; exact h.powered
theorem vbackup : t.vbackup = s.vbackup := by obtain ⟨_, _, h, rfl, _⟩ := h; exact h.vbackup
theorem screens : t.screens = s.screens := by obtain ⟨_, _, h, rfl, _⟩ := h; exact h.screens
theorem strikeQueue : t.strikeQueue = s.strikeQueue := by obtain ⟨_, _, h, rfl, _⟩ := h; exact h.strikeQueue
theorem spacing : t.spacing = s.spacing := by obtain ⟨_, _, h, rfl, _⟩ := h; exact h.spacing
theorem table (i : Fin 6) : t.cues[i.val].table = s.cues[i.val].table := by
  obtain ⟨_, _, _, rfl, k⟩ := h; exact k i
theorem lanes : t.lanes = s.lanes := by obtain ⟨_, _, h, rfl, _⟩ := h; exact h.lanes
theorem cars : t.cars = s.cars := by obtain ⟨_, _, h, rfl, _⟩ := h; exact h.cars
theorem site : t.site = s.site := by obtain ⟨_, _, h, rfl, _⟩ := h; exact h.site
theorem book : t.book = s.book := by obtain ⟨_, _, h, rfl, _⟩ := h; exact h.book
theorem kitchen : t.kitchen = s.kitchen := by obtain ⟨_, _, h, rfl, _⟩ := h; exact h.kitchen
theorem orders : t.orders = s.orders := by obtain ⟨_, _, h, rfl, _⟩ := h; exact h.orders
theorem policies (i : Fin 6) : t.policies i = s.policies i := by simp only [State.policies, h.screens]

end

end CueFrame

theorem CueUnit.act_table (u : CueUnit) (a : CueAction) : (u.act a).table = u.table := by cases a <;> rfl

theorem State.reportCue_frame (s : State) (i : Fin 6) (n : Nat) (e : CueEntry) (l : Bool) (k : Nat) :
    AnnounceFrame s (s.reportCue i n e l k) := by
  unfold State.reportCue
  split
  · exact s.post_frame _ _
  · exact .refl s

theorem State.updCue_frame (s : State) (i : Fin 6) (f : CueUnit → CueUnit) (h : ∀ u, (f u).table = u.table) :
    CueFrame s (s.updCue i f) := by
  refine ⟨vmod s.cues i f, s, .refl s, rfl, fun j => ?_⟩
  rw [vmod_get]
  split
  · next e => subst e; exact h _
  · rfl

/-- An entry that fires touches its screen's lines and the announce path's frame. -/
theorem State.fire_frame (s : State) (i : Fin 6) (n : Nat) (e : CueEntry) : CueFrame s (s.fire i n e) := by
  unfold State.fire
  split
  · next clip priority _ =>
    have h := s.enqueue_frame .showNotice priority [i] clip none none
    split
    · next heq => rw [heq] at h; exact .of (h.trans (State.reportCue_frame _ _ _ _ _ _))
    · exact .of ((s.post_frame _ _).trans (State.reportCue_frame _ _ _ _ _ _))
  · exact (s.updCue_frame i _ fun u => u.act_table _).trans (.of (State.reportCue_frame _ _ _ _ _ _))

/-- The firing at a position touches the screen's lines and the announce path's frame. -/
theorem State.fireAt_frame (s : State) (i : Fin 6) (p : Position) : CueFrame s (s.fireAt i p) :=
  foldl_related CueFrame .refl .trans _ (fun s (x : CueEntry × Nat) => s.fire_frame i x.2 x.1) _ _

/-! ## Lanes -/

/-- Only the lanes, the cars, the count book and the link may differ. -/
def LaneFrame (s t : State) : Prop := ∃ lanes cars book link, t = { s with lanes := lanes, cars := cars, book := book, link := link }

namespace LaneFrame

theorem refl (s : State) : LaneFrame s s := ⟨_, _, _, _, rfl⟩

theorem trans {a b c : State} (h : LaneFrame a b) (k : LaneFrame b c) : LaneFrame a c := by
  obtain ⟨_, _, _, _, rfl⟩ := h
  obtain ⟨_, _, _, _, rfl⟩ := k
  exact ⟨_, _, _, _, rfl⟩

section

variable {s t : State} (h : LaneFrame s t)
include h

theorem powered : t.powered = s.powered := by obtain ⟨_, _, _, _, rfl⟩ := h; rfl
theorem vbackup : t.vbackup = s.vbackup := by obtain ⟨_, _, _, _, rfl⟩ := h; rfl
theorem screens : t.screens = s.screens := by obtain ⟨_, _, _, _, rfl⟩ := h; rfl
theorem strikeQueue : t.strikeQueue = s.strikeQueue := by obtain ⟨_, _, _, _, rfl⟩ := h; rfl
theorem cues : t.cues = s.cues := by obtain ⟨_, _, _, _, rfl⟩ := h; rfl
theorem channels : t.channels = s.channels := by obtain ⟨_, _, _, _, rfl⟩ := h; rfl
theorem announce : t.announce = s.announce := by obtain ⟨_, _, _, _, rfl⟩ := h; rfl
theorem site : t.site = s.site := by obtain ⟨_, _, _, _, rfl⟩ := h; rfl
theorem kitchen : t.kitchen = s.kitchen := by obtain ⟨_, _, _, _, rfl⟩ := h; rfl
theorem orders : t.orders = s.orders := by obtain ⟨_, _, _, _, rfl⟩ := h; rfl
theorem notices : t.notices = s.notices := by obtain ⟨_, _, _, _, rfl⟩ := h; rfl

end

end LaneFrame

theorem State.count_frame (s : State) (r : Fin 16) (n : Nat) (f : Counts → Counts) : LaneFrame s (s.count r n f) := by
  unfold State.count
  split
  · exact ⟨_, _, _, _, rfl⟩
  · exact .refl s

theorem State.endAdmission_frame (s : State) (i : Fin 8) (p : Admission) (why : AdmissionEnd) :
    LaneFrame s (s.endAdmission i p why) := ⟨_, _, _, _, rfl⟩

theorem State.teardownLane_frame (s : State) (c : Fin 6) (i : Fin 8) : LaneFrame s (s.teardownLane c i) := by
  unfold State.teardownLane
  split
  · split
    · exact s.endAdmission_frame i _ _
    · exact .refl s
  · exact .refl s

theorem State.cancelAdmissions_frame (s : State) (c : Fin 6) : LaneFrame s (s.cancelAdmissions c) :=
  foldl_related LaneFrame .refl .trans _ (fun s i => s.teardownLane_frame c i) _ _

theorem State.complete_frame (s : State) (i : Fin 8) (p : Admission) : LaneFrame s (s.complete i p) := by
  unfold State.complete
  split
  · exact ⟨_, _, _, _, rfl⟩
  · refine LaneFrame.trans (b := _) ⟨_, _, _, _, rfl⟩ (LaneFrame.trans (State.count_frame _ _ _ _) ⟨_, _, _, _, rfl⟩)

theorem State.passage_frame (s : State) (i : Fin 8) (p : Passage) : LaneFrame s (s.passage i p) := by
  unfold State.passage
  split
  · split
    · exact s.complete_frame i _
    · unfold State.tailgate State.countAttributed
      dsimp only
      split
      · exact (s.count_frame _ _ _).trans ⟨_, _, _, _, rfl⟩
      · exact ⟨_, _, _, _, rfl⟩
  · unfold State.backout State.countAttributed
    dsimp only
    split
    · exact (s.count_frame _ _ _).trans ⟨_, _, _, _, rfl⟩
    · exact ⟨_, _, _, _, rfl⟩
  · exact ⟨_, _, _, _, rfl⟩
  · exact ⟨_, _, _, _, rfl⟩
  · exact .refl s

/-! ## Orders -/

/-- The order unit's frame: orders, cars, the count book, the announce path's queue and channels, PLAY, the kitchen, the
link and the notices may differ. -/
def OrderFrame (s t : State) : Prop :=
  ∃ orders cars book kitchen a ch w l n, t = { s with
    orders := orders, cars := cars, book := book, kitchen := kitchen, announce := a, channels := ch, playWords := w
    link := l, notices := n }

namespace OrderFrame

theorem refl (s : State) : OrderFrame s s := ⟨_, _, _, _, _, _, _, _, _, rfl⟩

theorem trans {a b c : State} (h : OrderFrame a b) (k : OrderFrame b c) : OrderFrame a c := by
  obtain ⟨_, _, _, _, _, _, _, _, _, rfl⟩ := h
  obtain ⟨_, _, _, _, _, _, _, _, _, rfl⟩ := k
  exact ⟨_, _, _, _, _, _, _, _, _, rfl⟩

theorem of {s t : State} (h : AnnounceFrame s t) : OrderFrame s t := by
  obtain ⟨_, _, _, _, _, rfl⟩ := h
  exact ⟨_, _, _, _, _, _, _, _, _, rfl⟩

section

variable {s t : State} (h : OrderFrame s t)
include h

theorem powered : t.powered = s.powered := by obtain ⟨_, _, _, _, _, _, _, _, _, rfl⟩ := h; rfl
theorem vbackup : t.vbackup = s.vbackup := by obtain ⟨_, _, _, _, _, _, _, _, _, rfl⟩ := h; rfl
theorem screens : t.screens = s.screens := by obtain ⟨_, _, _, _, _, _, _, _, _, rfl⟩ := h; rfl
theorem strikeQueue : t.strikeQueue = s.strikeQueue := by obtain ⟨_, _, _, _, _, _, _, _, _, rfl⟩ := h; rfl
theorem spacing : t.spacing = s.spacing := by obtain ⟨_, _, _, _, _, _, _, _, _, rfl⟩ := h; rfl
theorem cues : t.cues = s.cues := by obtain ⟨_, _, _, _, _, _, _, _, _, rfl⟩ := h; rfl
theorem lanes : t.lanes = s.lanes := by obtain ⟨_, _, _, _, _, _, _, _, _, rfl⟩ := h; rfl
theorem site : t.site = s.site := by obtain ⟨_, _, _, _, _, _, _, _, _, rfl⟩ := h; rfl
theorem key : t.key = s.key := by obtain ⟨_, _, _, _, _, _, _, _, _, rfl⟩ := h; rfl

end

end OrderFrame

theorem State.count_order_frame (s : State) (r : Fin 16) (n : Nat) (f : Counts → Counts) : OrderFrame s (s.count r n f) := by
  unfold State.count
  split
  · exact ⟨_, _, _, _, _, _, _, _, _, rfl⟩
  · exact .refl s

theorem State.dropCall_frame (s : State) (o : Order) : OrderFrame s (s.dropCall o) := by
  unfold State.dropCall
  split
  · exact ⟨_, _, _, _, _, _, _, _, _, rfl⟩
  · exact .of (s.withdraw_frame _)

theorem State.expireOrder_frame (s : State) (o : Order) : OrderFrame s (s.expireOrder o) := by
  unfold State.expireOrder
  exact (s.count_order_frame _ _ _).trans ⟨_, _, _, _, _, _, _, _, _, rfl⟩

theorem State.releaseOrder_frame (s : State) (o : Order) : OrderFrame s (s.releaseOrder o) := by
  unfold State.releaseOrder
  split
  · exact ⟨_, _, _, _, _, _, _, _, _, rfl⟩
  · exact (OrderFrame.trans (b := (s.stopRecall o).leaveReady o) ⟨_, _, _, _, _, _, _, _, _, rfl⟩
      (State.dropCall_frame _ o)).trans (State.expireOrder_frame _ o)
  · exact (OrderFrame.trans (b := (s.stopRecall o).leaveReady o) ⟨_, _, _, _, _, _, _, _, _, rfl⟩
      (State.dropCall_frame _ o)).trans (State.expireOrder_frame _ o)
  · exact .refl s

/-- A car's release touches the order unit's frame alone. -/
theorem State.releaseCar_frame (s : State) (tag : Nat) : OrderFrame s (s.releaseCar tag) := by
  unfold State.releaseCar State.releaseOrders
  exact (foldl_related OrderFrame .refl .trans _ (fun s o => s.releaseOrder_frame o) _ _).trans
    ⟨_, _, _, _, _, _, _, _, _, rfl⟩

theorem State.sweep_frame (s : State) (i : Fin 6) : OrderFrame s (s.sweep i) :=
  foldl_related OrderFrame .refl .trans _ (fun s (c : Car) => s.releaseCar_frame c.tag) _ _

theorem State.pickOrder_frame (s : State) (o : Order) : OrderFrame s (s.pickOrder o) := by
  unfold State.pickOrder
  exact ((OrderFrame.trans (b := (s.stopRecall o).leaveReady o) ⟨_, _, _, _, _, _, _, _, _, rfl⟩
    (State.dropCall_frame _ o)).trans (State.count_order_frame _ _ _ _)).trans ⟨_, _, _, _, _, _, _, _, _, rfl⟩

theorem State.placeCall_frame (s : State) (o : Order) (k : CallKind) : OrderFrame s (s.placeCall o k).2 := by
  have h := s.enqueue_frame (.call k) 1 [o.screen] (s.site.clipOf k) (some o.tag) (some o.number)
  unfold State.placeCall State.enqueueCall
  split
  · next heq => rw [heq] at h; exact (OrderFrame.of h).trans ⟨_, _, _, _, _, _, _, _, _, rfl⟩
  · next heq => rw [heq] at h; exact (OrderFrame.of h).trans ⟨_, _, _, _, _, _, _, _, _, rfl⟩

/-! ## The teardown -/

/-- The state after a report is queued for each of a list. -/
theorem State.postAll_frame (s : State) (rs : List (Nat × ReportRecord)) : AnnounceFrame s (s.postAll rs) :=
  foldl_related AnnounceFrame .refl .trans _ (fun s (r : Nat × ReportRecord) => s.post_frame r.1 r.2) _ _

/-- The closing of a screen's record leaves the screen without a binding and otherwise as it was. -/
theorem State.closeBound_screens (s : State) (i : Fin 6) :
    (s.closeBound i).screens = vmod s.screens i fun c => { c with bound := none } := by
  unfold State.closeBound
  split
  · next h => exact (vmod_same _ _ _ (by
      have h' : s.screens[i.val].bound = none := h
      cases hs : s.screens[i.val]; simp_all)).symm
  · rw [(State.postAll_frame _ _).screens]; rfl

/-- The teardown leaves every screen as it was but for the binding of the one torn down. -/
theorem State.teardown_screens (s : State) (i : Fin 6) :
    (s.teardown i).screens = vmod s.screens i fun c => { c with bound := none } := by
  unfold State.teardown State.clearLines
  rw [State.updCue_screens, State.closeBound_screens, (State.sweep_frame _ i).screens,
    (State.cancelAdmissions_frame s i).screens]

end Sys2Proof.Machine
end

