-- ==== Sys2Proof/Laws/Requests.lean ====
section
/-! SUPPORT. The taking of a request, said once for all request commands: a proof about one of them starts from these and
goes on with the effect of its owning rule. -/

namespace Sys2Proof.Machine

/-- A request command is the taking of its request by the service. -/
theorem exec_request {c : Instr} {tag : Byte} {r : Request} (h : c.request = some (tag, r)) (s : State) :
    exec c s = .next (s.request tag r) := by
  cases c <;> simp only [Instr.request, Option.some.injEq, Prod.mk.injEq, reduceCtorEq] at h <;>
    obtain ⟨rfl, rfl⟩ := h <;> rfl

/-- A request that the service takes at once. -/
theorem State.request_takes {s : State} {tag : Byte} {r : Request} (h : s.takes tag) (hf : r.fits = true) :
    s.request tag r = s.take tag r := by
  obtain ⟨h1, h2, h3, h4⟩ := h
  simp only [State.request, State.ifPowered, h1, h2, h3, hf, if_true, List.isEmpty_nil, Bool.and_self, if_neg h4]

/-- A request taken whose effect and answer are known. -/
theorem State.take_of {s t : State} {tag : Byte} {r : Request} {data : List Byte} (h : requestEffect r s = (t, .ok data))
    (hr : r ≠ .siteReset) : s.take tag r = t.replied tag data := by
  simp only [State.take, h, Answer.ok, decide_eq_false hr]
  rfl

/-- A request taken that its owning rule refuses without a change. -/
theorem State.take_refused {s : State} {tag : Byte} {r : Request} {code : Result} (h : requestEffect r s = (s, .refused code))
    (hr : r ≠ .siteReset) : s.take tag r = s.refused tag code [] := by
  simp only [State.take, h, Answer.refused, decide_eq_false hr]
  rfl

/-- A byte that names a unit. -/
theorem unit_eq {n : Nat} {b : Byte} {i : Fin n} (h : b.toNat = i.val) : unit? n b = some i := by
  simp [unit?, h]

/-- A byte that names no unit. -/
theorem unit_none {n : Nat} {b : Byte} (h : n ≤ b.toNat) : unit? n b = none := by
  simp [unit?]
  omega

/-- An event of the screen unit, its policies compared once. -/
theorem State.withPolicyNotice_of (s : State) (i : Fin 6) (f : State → State) {t : State} (h : f s = t) :
    s.withPolicyNotice i f = if t.policies i = s.policies i then t else t.hand (.policy i) := by
  subst h
  rfl

end Sys2Proof.Machine
end

