-- ==== Sys2Proof/Laws/Ring.lean ====
section
/-! SUPPORT. The delay line, which is the part's one addressed buffer (R44): a write keeps its canonical form, is read back
at its own place, and leaves every other place as it was. -/

namespace Sys2Proof.Machine

/-- A place before the first one listed holds the zero frame. -/
theorem Ring.read_before {ring : List (Nat × Frame)} : ∀ {low place : Nat}, Ring.wfFrom low ring = true → place < low →
    Ring.read ring place = .zero := by
  induction ring with
  | nil => intros; rfl
  | cons x rest ih =>
    intro low place h hp
    simp only [Ring.wfFrom, Bool.and_eq_true, decide_eq_true_eq] at h
    simp only [Ring.read]
    rw [if_neg (by omega), ih h.2 (by omega)]

/-- A lower start is no restriction. -/
theorem Ring.wfFrom_mono {ring : List (Nat × Frame)} {low low' : Nat} (h : Ring.wfFrom low' ring = true) (hl : low ≤ low') :
    Ring.wfFrom low ring = true := by
  cases ring with
  | nil => rfl
  | cons x rest =>
    simp only [Ring.wfFrom, Bool.and_eq_true, decide_eq_true_eq] at h ⊢
    exact ⟨⟨⟨by omega, h.1.1.2⟩, h.1.2⟩, h.2⟩

/-- A write keeps the form from any start at or below its place. -/
theorem Ring.write_wfFrom {ring : List (Nat × Frame)} : ∀ {low place : Nat} {f : Frame}, Ring.wfFrom low ring = true →
    low ≤ place → place < Config.ringFrames → Ring.wfFrom low (Ring.write ring place f) = true := by
  induction ring with
  | nil =>
    intro low place f _ hl hp
    simp only [Ring.write]
    split
    · rfl
    · simp [Ring.wfFrom, *]
  | cons x rest ih =>
    intro low place f h hl hp
    have h' := h
    simp only [Ring.wfFrom, Bool.and_eq_true, decide_eq_true_eq] at h'
    simp only [Ring.write]
    split
    · split
      · exact h
      · simp only [Ring.wfFrom, Bool.and_eq_true, decide_eq_true_eq]
        exact ⟨⟨⟨hl, hp⟩, by simp [*]⟩, ⟨⟨by omega, h'.1.1.2⟩, h'.1.2⟩, h'.2⟩
    · split
      · split
        · exact Ring.wfFrom_mono h'.2 (by omega)
        · simp only [Ring.wfFrom, Bool.and_eq_true, decide_eq_true_eq]
          exact ⟨⟨⟨hl, hp⟩, by simp [*]⟩, by simp_all⟩
      · simp only [Ring.wfFrom, Bool.and_eq_true, decide_eq_true_eq]
        exact ⟨h'.1, ih h'.2 (by omega) hp⟩

/-- A write keeps the canonical form. -/
theorem Ring.write_wf {ring : List (Nat × Frame)} {place : Nat} {f : Frame} (h : Ring.wf ring = true)
    (hp : place < Config.ringFrames) : Ring.wf (Ring.write ring place f) = true :=
  Ring.write_wfFrom h (Nat.zero_le _) hp

/-- Every place after a write: the frame written at its own place, and what was there at every other. -/
theorem Ring.read_write_from {ring : List (Nat × Frame)} : ∀ {low place other : Nat} {f : Frame},
    Ring.wfFrom low ring = true →
    Ring.read (Ring.write ring place f) other = if other = place then f else Ring.read ring other := by
  induction ring with
  | nil =>
    intro low place other f _
    simp only [Ring.write]
    by_cases hf : f = .zero
    · simp [hf, Ring.read]
    · by_cases ho : other = place
      · simp [hf, ho, Ring.read]
      · simp [hf, ho, Ring.read, Ne.symm ho]
  | cons x rest ih =>
    intro low place other f h
    simp only [Ring.wfFrom, Bool.and_eq_true, decide_eq_true_eq] at h
    have before : ∀ p, p ≤ x.1 → Ring.read rest p = .zero := fun p hp => Ring.read_before h.2 (by omega)
    simp only [Ring.write]
    split
    · split
      · by_cases ho : other = place
        · subst ho
          simp only [Ring.read, if_true]
          rw [if_neg (by omega), before _ (by omega)]
          exact Eq.symm ‹f = Frame.zero›
        · rw [if_neg ho]
      · by_cases ho : other = place
        · simp [Ring.read, ho]
        · simp only [Ring.read, if_neg (Ne.symm ho), if_neg ho]
    · split
      · rename_i hx
        split
        · by_cases ho : other = place
          · rw [if_pos ho, before _ (by omega)]
            exact Eq.symm ‹f = Frame.zero›
          · simp only [Ring.read, if_neg ho, if_neg (show ¬ x.1 = other by omega)]
        · by_cases ho : other = place
          · simp [Ring.read, ho]
          · simp only [Ring.read, if_neg (Ne.symm ho), if_neg ho, if_neg (show ¬ x.1 = other by omega)]
      · simp only [Ring.read]
        by_cases hx : x.1 = other
        · rw [if_pos hx, if_pos hx, if_neg (by omega)]
        · rw [if_neg hx, if_neg hx]
          exact ih h.2

/-- Reading the place written gives the frame written. -/
theorem Ring.read_write_same {ring : List (Nat × Frame)} {place : Nat} {f : Frame} (h : Ring.wf ring = true) :
    Ring.read (Ring.write ring place f) place = f := by
  rw [Ring.read_write_from h, if_pos rfl]

/-- Reading another place gives what it held. -/
theorem Ring.read_write_other {ring : List (Nat × Frame)} {place other : Nat} {f : Frame} (h : Ring.wf ring = true)
    (ho : other ≠ place) : Ring.read (Ring.write ring place f) other = Ring.read ring other := by
  rw [Ring.read_write_from h, if_neg ho]

end Sys2Proof.Machine
end

