-- ==== Sys2Proof/Tests/Slice0.lean ====
section
/-! SUPPORT. Tests by named theorems. The first part refuses ill-formed commands and reads frames written out byte by byte;
the second runs single commands of the spec's worked examples; the third shows, for each statement that has hypotheses, a
state and operands that meet them, at the boundary values where a clause has a range. -/

namespace Sys2Proof.Tests

open Sys2Proof Sys2Proof.Machine

/-! ## Well-formed commands: one ill-formed term for each check -/

theorem test_wf_tag_zero : (Instr.identify 0).wf = false ∧ (Instr.identify 255).wf = true := by decide

theorem test_wf_program_too_long :
    (Instr.loadProgram 1 0 0 0 (List.replicate 128 ⟨0, 1, 0, 0, 0, 0⟩)).wf = false
    ∧ (Instr.loadProgram 1 0 0 0 (List.replicate 127 ⟨0, 1, 0, 0, 0, 0⟩)).wf = true := by decide +kernel

theorem test_wf_cues_too_long :
    (Instr.loadCues 1 0 (List.replicate 114 ⟨0, 1, 0, 0, 0, 0, 0⟩)).wf = false
    ∧ (Instr.loadCues 1 0 (List.replicate 113 ⟨0, 1, 0, 0, 0, 0, 0⟩)).wf = true := by decide

theorem test_wf_menu_too_long :
    (Instr.loadMenu 1 0 (List.replicate 114 ⟨0, 1, 0, 0, 0, 0⟩)).wf = false
    ∧ (Instr.loadMenu 1 0 (List.replicate 113 ⟨0, 1, 0, 0, 0, 0⟩)).wf = true := by decide

theorem test_wf_order_too_long :
    (Instr.order 1 5 (List.replicate 256 ⟨0, 1⟩)).wf = false ∧ (Instr.order 1 5 (List.replicate 255 ⟨0, 1⟩)).wf = true := by
  decide +kernel

theorem test_wf_unknown_kind_body : (Instr.unknownKind 1 0x7F (List.replicate 1025 0)).wf = false
    ∧ (Instr.unknownKind 1 0x7F (List.replicate 1024 0)).wf = true := by decide +kernel

theorem test_wf_unknown_kind_that_passes : (Instr.unknownKind 1 0x01 []).wf = false
    ∧ (Instr.unknownKind 0 0x01 []).wf = true ∧ (Instr.unknownKind 1 0x01 [0]).wf = true := by decide

theorem test_wf_ticket_done_number : (Instr.ticketDoneNotice 0 1).wf = false ∧ (Instr.ticketDoneNotice 65535 1).wf = true := by
  decide

theorem test_wf_call_played_order : (Instr.callPlayedNotice 0 1 .recall .finished).wf = false := by decide
theorem test_wf_call_played_entry : (Instr.callPlayedNotice 1 65536 .recall .finished).wf = false := by decide
theorem test_wf_call_played_outcome : (Instr.callPlayedNotice 1 1 .recall .cancelled).wf = false
    ∧ (Instr.callPlayedNotice 1 1 .recall .timeout).wf = true := by decide

theorem test_wf_recall_number : (Instr.recallTimerExpiry 0).wf = false ∧ (Instr.recallTimerExpiry 1).wf = true := by decide

/-! ## Frames (R182, R183, R189): bodies written out from the table of R189 -/

theorem test_crc_check_value : crc [0x31, 0x32, 0x33, 0x34, 0x35, 0x36, 0x37, 0x38, 0x39] = 0x29B1 := by decide +kernel

theorem test_read_set_time : decodeRequest 0x03 [0x01, 0x02, 0x03, 0x04] = .ok (.setTime 0x01020304) := by decide

theorem test_read_load_program : decodeRequest 0x10 [4, 0x00, 0x2D, 0x00, 0x78, 1, 2, 0x00, 0x1C, 0x84, 1, 0, 2, 1] =
    .ok (.loadProgram 4 45 120 [⟨2, 7300, 1, 0, 2, 1⟩]) := by decide

theorem test_read_load_cues : decodeRequest 0x11 [2, 1, 3, 0x00, 0x00, 0x30, 4, 0, 17, 2, 1] =
    .ok (.loadCues 2 [⟨3, 48, 4, 0, 17, 2, 1⟩]) := by decide

theorem test_read_go : decodeRequest 0x13 [5, 31, 1] = .ok (.go 5 31 1) := by decide

theorem test_read_set_channel :
    decodeRequest 0x20 [1, 0x07, 0xFF, 0x7F, 0xFF, 0x10, 0x00, 0x00, 0x40, 0x40, 0x00] =
      .ok (.setChannel 1 2047 32767 4096 64 16384) := by decide

theorem test_read_announce : decodeRequest 0x22 [9, 3, 0x3F] = .ok (.announce 9 3 0x3F) := by decide

theorem test_read_admit : decodeRequest 0x32 [2, 0x11, 0x3A, 3, 4] = .ok (.admitCar 2 4410 3 4) := by decide

theorem test_read_set_count_policy : decodeRequest 0x42 [1] = .ok (.setCountPolicy 1) := by decide

theorem test_read_set_stock : decodeRequest 0x51 [40, 1, 0x00, 0x06, 0x00, 0x05] = .ok (.setStock 40 1 6 5) := by decide

theorem test_read_order : decodeRequest 0x53 [0x0B, 0xFF, 2, 12, 2, 40, 1] = .ok (.order 3071 [⟨12, 2⟩, ⟨40, 1⟩]) := by decide

theorem test_read_bad_length : decodeRequest 0x53 [0x0B, 0xFF, 2, 12, 2, 40] = .error .badLength := by decide
theorem test_read_unknown_kind : decodeRequest 0x19 [] = .error .unknownKind := by decide

/-! ## Small states -/

/-- The state a command leaves. -/
def after (c : Instr) (s : State) : State :=
  match exec c s with
  | .next t => t
  | _ => s

/-- Two segments: a feature, and an intermission that holds at its end. -/
def feature : Segment := ⟨.feature, 2, .admitAll, .opened, .opened, false⟩
def interval : Segment := ⟨.intermission, 3, .admitLate, .lastCall, .urgentOnly, true⟩
def twoSegments : List Segment := [feature, interval]

/-- An OPEN record of Screen 0 with show 57. -/
def openRecord : CountRecord :=
  { CountRecord.freed with state := .opened, screen := some 0, show_ := some 57, openedAt := some 7 }

/-- Screen 0 in a state with a program, bound to record 2. -/
def shown (st : ScreenState) (p : Option Position) : State :=
  (State.reset.updScreen 0 fun c => { c with state := st, program := some twoSegments, position := p, bound := some 2 }).updRecord
    2 fun _ => openRecord

/-- Car 3071 of Screen 0, on the lot. -/
def car : Car := ⟨3071, 0, 2, .onLot, 2, 4, false, none, some 0, 0⟩

/-- Item 12 at Station 0 and item 40 at Station 2, as in the example of the kitchen chapter. -/
def burger : Item := ⟨0, 240, true, none, 0⟩
def soda : Item := ⟨2, 60, true, some 6, 5⟩

/-- The kitchen of that example, its clock at 9,000. -/
def kitchen : Kitchen :=
  { State.reset.kitchen with
    menu := vmod (vmod State.reset.kitchen.menu 12 fun _ => burger) 40 fun _ => soda
    stations := vmod State.reset.kitchen.stations 0 fun x =>
      { x with perUnit := 30, queue := [⟨511, 0, 3, 300, some 8880⟩, ⟨514, 0, 1, 240, none⟩] }
    clock := 9000 }

/-- Screen 0 RUNNING its feature with that kitchen and car. -/
def ordering : State := { shown .running (some ⟨0, 1⟩) with cars := [car], kitchen := kitchen }

def lines : List OrderLine := [⟨12, 2⟩, ⟨40, 1⟩]

/-- Order 601 of car 3071. -/
def order (st : OrderState) (out : List (Fin 4)) : Order :=
  ⟨601, 3071, 0, 2, 57, 0, st, lines, 3, out, 0, none, 1, some 830, false, none⟩

/-- A state that holds order 601, listed at Window 0 once it is READY or CALLED. -/
def ordered (st : OrderState) (out : List (Fin 4)) : State :=
  ordering.updOrders fun u => { u with table := [order st out], ready := vmod u.ready 0 fun _ => if out = [] then [601] else [] }

/-- An operator's entry for Screens 0 and 3. -/
def entry : Entry := ⟨5, .operator, 2, [0, 3], 9, none, none⟩

/-- That entry granted. -/
def onAir : OnAir := ⟨5, .operator, 2, [0, 3], 9, none, none⟩

/-- A path with that entry on air. -/
def airing (st : PathState) (t : Timer) : State :=
  State.reset.updAnnounce fun a => { a with state := st, onAir := some onAir, timer := t }

/-- So many copies of that entry wait, in a path state. -/
def waiting (n : Nat) (st : PathState) : State :=
  State.reset.updAnnounce fun a => { a with queue := List.replicate n entry, state := st }

/-- Lane 2 in ENTRY with car 4410 of Screen 0 pending, its loops as after a forward entry. -/
def lane : Lane := { Lane.reset false false with mode := .entry }
def admission : Admission := ⟨4410, 0, 2⟩
def pendingLane : Lane :=
  { lane with pending := some admission, barrierUp := true, admTimer := some 60000, direction := .fwd, debB := true
              timerB := some 0 }
def gate (l : Lane) : State :=
  { shown .running (some ⟨1, 2⟩) with
    lanes := vmod State.reset.lanes 2 fun _ => l, cars := [⟨4410, 0, 2, .pending, 2, 4, false, none, none, 0⟩] }

/-- The reply of a SITE_RESET on the line. -/
def ending : State := (shown .running none).updLink fun l => { l with sending := some (.reply ⟨1, .ok, [], true⟩), resetTaken := true }

/-! ## The spec's worked examples, one command each -/

theorem test_strike_is_granted_at_once : (after (.strike 1 3) State.reset).screens[3].state = .striking
    ∧ (after (.strike 1 3) State.reset).spacing = some 5000 ∧ (after (.strike 1 3) State.reset).strikeQueue = [] := by
  decide

theorem test_strike_waits_for_the_supply :
    (after (.strike 1 1) (State.reset.updScreen 3 fun c => { c with state := .striking })).strikeQueue = [1] := by
  decide

theorem test_strike_while_closing : (after (.strike 1 0) (shown .closing none)).link.replies = [⟨1, .cooling, [], false⟩] := by
  decide

theorem test_go_outside_ready : (after (.go 1 0 0 0) (shown .dark none)).link.replies = [⟨1, .state, [], false⟩] := by
  decide

theorem test_mix_case_one : featureTerm true 20000 18000 4096 = 5493 ∧ announceTerm true (-12000) 16384 = -12000
    ∧ featureTerm true (-20000) 18000 4096 = -5493 := by decide

theorem test_mix_case_two : saturateSample (featureTerm true 30000 32767 16384) = 32767
    ∧ featureTerm true 30000 32767 16384 = 59998 := by decide

theorem test_mix_case_three : featureTerm true (-32768) 32767 16384 = -65534
    ∧ saturateSample (featureTerm true (-32768) 32767 16384) = -32768 := by decide

theorem test_mix_case_four : featureTerm false 30000 32767 16384 + announceTerm true 5 8192 = 3
    ∧ announceTerm true (-5) 8192 = -2 := by decide

theorem test_ramp_last_step_is_short : Sys2Proof.Machine.rampStep 5056 5000 64 = 5000
    ∧ Sys2Proof.Machine.rampStep 11400 5000 64 = 11336 ∧ Sys2Proof.Machine.rampStep 16384 5000 64 = 16320 := by decide

theorem test_feature_queue_full :
    (after (.featureFrameArrival 3 1 2) (State.reset.updChannel 3 fun c => { c with input := List.replicate 8 ⟨0, 0⟩ })).link.reports
      = [⟨0, 3, .audio .overrun false⟩] := by decide

theorem test_estimate_of_the_example : kitchen.stationEstimate lines 0 = 690 ∧ kitchen.stationEstimate lines 2 = 60
    ∧ kitchen.estimate lines = 690 ∧ { kitchen with clock := 9300 }.estimate lines = 510 := by decide

theorem test_order_stock_low : (after (.order 1 3071 [⟨12, 2⟩, ⟨40, 1⟩]) ordering).link.reports
    = [⟨0, 2, .stock 40 .low 5 5 1⟩] := by decide

theorem test_order_too_late :
    ((after (.order 1 3071 [⟨12, 2⟩, ⟨40, 1⟩])
      { shown .running (some ⟨1, 0⟩) with cars := [car], kitchen := kitchen }).link.replies.map (·.result)) = [.tooLate] := by
  decide

theorem test_forward_passage_of_the_example :
    (after (.loopDebounceExpiry 2 .b) (gate pendingLane)).lanes[2].attribution = some ⟨0, 2, 57⟩
    ∧ (after (.loopDebounceExpiry 2 .b) (gate pendingLane)).book.records[2].counts.lateAdmissions = 1
    ∧ (after (.loopDebounceExpiry 2 .b) (gate pendingLane)).book.records[2].counts.occupants = 4 := by decide

theorem test_tailgate_without_attribution :
    (after (.loopDebounceExpiry 2 .b) (gate { lane with direction := .fwd, debB := true, timerB := some 0 })).link.reports
      = [⟨0, 2, .tailgate none false⟩] := by decide

theorem test_call_timeout_counts_as_a_call :
    ((after (.callPlayedNotice 601 830 .recall .timeout) (ordered .called [])).orders.table.map fun o => (o.calls, o.recallTimer))
      = [(2, some 180000)] := by decide

theorem test_release_needs_the_key :
    (after (.releaseCount 1 2) (State.reset.updRecord 2 fun c => { c with state := .closed })).link.replies
      = [⟨1, .keyRequired, [], false⟩] := by decide

theorem test_link_busy_leaves_the_frames :
    (after (.getScreen 19 0) (State.reset.updLink fun l => { l with
      received := [⟨15, 0x18, [0]⟩, ⟨16, 0x18, [0]⟩, ⟨17, 0x18, [0]⟩, ⟨18, 0x18, [0]⟩]
      replies := [⟨11, .ok, [], false⟩, ⟨12, .ok, [], false⟩, ⟨13, .ok, [], false⟩, ⟨14, .ok, [], false⟩] })).link.replies.map (·.tag)
      = [11, 12, 13, 14, 19] := by decide

theorem test_report_queue_full_sets_lost :
    ((State.reset.updLink fun l => { l with reports := List.replicate 64 ⟨0, 0, .exit⟩ }).post 2 .exit).link.lost = true := by
  decide

theorem test_power_on_without_backup_is_reset :
    after (.powerOn false) { State.reset with powered := false, playWords := [], book := { State.reset.book with valid := false } }
      = State.reset := by decide +kernel

theorem test_power_on_keeps_a_closed_show :
    (after (.powerOn true) (shown .running none)).book.records[2].state = .closed
    ∧ (after (.powerOn true) (shown .running none)).book.records[2].interrupted = true
    ∧ (after (.powerOn true) (shown .running none)).link.reports = [⟨0, 0, .countClosed 2 57 7 0 true⟩] := by decide +kernel

theorem test_supplies_hold_the_book :
    (after .mainPowerLoss (shown .ready none)).book.valid = true
    ∧ (after .backupSupplyLoss (shown .ready none)).book.valid = true
    ∧ (after .mainPowerLoss (after .backupSupplyLoss (shown .ready none))).book.valid = false
    ∧ (after .backupSupplyLoss (after .mainPowerLoss (shown .ready none))).book.valid = false := by decide

theorem test_barrier_without_power :
    (gate pendingLane).barrier 2 = true ∧ (after .mainPowerLoss (gate pendingLane)).barrier 2 = false := by decide

theorem test_exciter_bits :
    (State.reset.updChannel 4 fun c => { c with output := ⟨0x8001, 0x4000⟩ }).exciter 4
      = [true] ++ List.replicate 14 false ++ [true] ++ [false, true] ++ List.replicate 14 false := by decide

/-- The end of a play whose remainder the next grant takes whole (R190): the mark is clear. -/
theorem test_remainder_at_the_end_of_the_event :
    (after (.done true) ((airing .playing (some 9)).updAnnounce fun a => { a with queue := [entry] })).link.reports.head?
      = some ⟨0, 0, .playDone onAir .finished false⟩
    ∧ (after (.done true) ((airing .playing (some 9)).updAnnounce fun a => { a with queue := [entry] })).announce.queue = [] := by
  decide

theorem test_tx_levels :
    lineBits 0xA5 = [false, true, false, true, false, false, true, false, true, true]
    ∧ State.reset.tx 0 = false ∧ State.reset.tx 1 = true ∧ State.reset.tx 2 = false
    ∧ (State.reset.updLink fun l => { l with sending := none }).tx 0 = true
    ∧ (after .mainPowerLoss State.reset).tx 1 = false := by decide +kernel

theorem test_site_reset_reads_the_strap :
    (after .siteResetReset ending).link.fastBaud = Config.strapLevel 0
    ∧ (after .txFrameEnd { ending with strapReads := 1 }).link.fastBaud = Config.strapLevel 1
    ∧ (after .siteResetReset State.reset).link.baud = 115200 := ⟨rfl, rfl, rfl⟩

/-! ## Witnesses: for each statement with hypotheses, a state and operands that meet them -/

theorem witness_IdleStep :
    ({ State.reset with notices := [.slotFree] }.pending = [] ∧ State.reset.powered = true)
    ∧ (State.reset.notices = [] ∧ 1000 ≤ { State.reset with book := { State.reset.book with secondMs := 1000 } }.book.secondMs)
    ∧ (State.reset.book.secondMs < 1000 ∧ { State.reset with spacing := some 0 }.expiries = .spacingIntervalExpiry :: [])
    ∧ State.reset.expiries = [] ∧ { State.reset with spacing := some 1 }.expiries = []
    ∧ (after .mainPowerLoss State.reset).powered = false ∧ (after .mainPowerLoss State.reset).book.valid = true
    ∧ (after .backupSupplyLoss (after .mainPowerLoss State.reset)).powered = false
    ∧ (after .backupSupplyLoss (after .mainPowerLoss State.reset)).book.valid = false := by decide

theorem witness_RequestDecodeEncode : (Request.order 3071 (List.replicate 255 ⟨12, 2⟩)).fits = true
    ∧ (Request.loadProgram 0 45 120 (List.replicate 127 ⟨2, 7300, 1, 0, 2, 1⟩)).fits = true
    ∧ (Request.order 3071 (List.replicate 256 ⟨12, 2⟩)).fits = false ∧ (Request.loadMenu 0 (List.replicate 114 ⟨0, 1, 0, 0, 0, 0⟩)).fits = false
    := by decide +kernel

theorem witness_FrameBytesTakeTheRequest :
    (Instr.order 9 3071 [⟨12, 2⟩]).request = some (9, .order 3071 [⟨12, 2⟩]) ∧ (Request.order 3071 [⟨12, 2⟩]).fits = true
    ∧ ordering.takes 9 ∧ ordering.link.receiver = .hunting ∧ ordering.link.gapTimer = none := by decide

/-- A receiver inside a frame. -/
def inFrame (bytes : List Byte) : State :=
  State.reset.updLink fun l => { l with receiver := .inFrame bytes, gapTimer := some 3 }

theorem witness_ReceiverBytesAndGaps :
    State.reset.powered = true ∧ State.reset.link.receiver = .hunting
    ∧ (inFrame [0x04]).link.receiver = .inFrame [0x04] ∧ (inFrame [0x04]).link.received = []
    ∧ ((0x00 : Byte) ++ (0x01 : Byte)).toNat < 2 ∧ 1026 < ((0x04 : Byte) ++ (0x03 : Byte)).toNat
    ∧ 2 ≤ ((0x00 : Byte) ++ (0x02 : Byte)).toNat ∧ ((0x04 : Byte) ++ (0x02 : Byte)).toNat ≤ 1026
    ∧ (inFrame []).link.receiver = .inFrame [] ∧ (inFrame []).powered = true
    ∧ (inFrame [0x04]).link.gapTimer = some 3 := by decide

/-- A receiver before the last byte of an IDENTIFY frame, with frames and replies waiting. -/
def lastByte (frames replies : Nat) : State :=
  (inFrame [0, 2, 1, 9, (crc [0, 2, 1, 9]).extractLsb' 8 8]).updLink fun l =>
    { l with received := List.replicate frames ⟨15, 0x18, [0]⟩, replies := List.replicate replies ⟨11, .ok, [], false⟩ }

theorem witness_ReceiverBytesAndGaps_lastByte :
    (lastByte 0 0).powered = true
    ∧ (lastByte 0 0).link.receiver = .inFrame (0 :: 2 :: 1 :: 9 :: [] ++ [(crc [0, 2, 1, 9]).extractLsb' 8 8])
    ∧ ((0 : Byte) ++ (2 : Byte)).toNat = ([] : List Byte).length + 2 ∧ [(1 : Byte), 9].length + 1 < ((0 : Byte) ++ (2 : Byte)).toNat + 2
    ∧ (crc [0, 2, 1, 9]).extractLsb' 8 8 ++ (crc [0, 2, 1, 9]).extractLsb' 0 8 = crc (0 :: 2 :: 1 :: 9 :: [])
    ∧ (crc [0, 2, 1, 9]).extractLsb' 8 8 ++ ((crc [0, 2, 1, 9]).extractLsb' 0 8 + 1) ≠ crc (0 :: 2 :: 1 :: 9 :: [])
    ∧ (lastByte 0 0).link.received = [] ∧ (lastByte 1 4).link.received ≠ [] ∧ (lastByte 1 4).link.serves = false
    ∧ (lastByte 3 4).link.serves = false ∧ (lastByte 3 4).link.received.length < 4
    ∧ (lastByte 4 4).link.serves = false ∧ 4 ≤ (lastByte 4 4).link.received.length := by decide +kernel

/-- Replies and reports waiting behind a frame being sent. -/
def queued (replies : List Reply) (reports : List Report) : State :=
  State.reset.updLink fun l => { l with replies := replies, reports := reports }

theorem witness_TransmitArbiter :
    State.reset.powered = true ∧ State.reset.link.sending.isSome = true ∧ State.reset.link.endsPart = false
    ∧ (queued [⟨1, .ok, [], false⟩] []).link.replies = ⟨1, .ok, [], false⟩ :: [] ∧ (queued [] []).link.received = []
    ∧ (queued [] [⟨0, 2, .exit⟩]).link.reports = ⟨0, 2, .exit⟩ :: []
    ∧ (queued [] (List.replicate 63 ⟨0, 2, .exit⟩)).link.reports.length < 64
    ∧ 64 ≤ (queued [] (List.replicate 64 ⟨0, 2, .exit⟩)).link.reports.length := by decide

/-- A GET_STATUS frame waits behind so many replies. -/
def behind (replies : Nat) : State :=
  State.reset.updLink fun l =>
    { l with received := [⟨9, Request.getStatus.kind, Request.getStatus.body⟩], replies := List.replicate replies ⟨11, .ok, [], false⟩ }

theorem witness_TransmitArbiter_service :
    ending.powered = true ∧ ending.link.endsPart = true ∧ ending.link.sending = some (.reply ⟨1, .ok, [], true⟩)
    ∧ (State.reset.updLink fun l => { l with sending := none }).link.sending = none
    ∧ (behind 4).link.endsPart = false ∧ (behind 4).link.replies = ⟨11, .ok, [], false⟩ :: List.replicate 3 ⟨11, .ok, [], false⟩
    ∧ (behind 4).link.received = ⟨9, Request.getStatus.kind, Request.getStatus.body⟩ :: []
    ∧ { (behind 4).link with replies := List.replicate 3 ⟨11, .ok, [], false⟩ }.serves = true
    ∧ { (behind 5).link with replies := List.replicate 4 ⟨11, .ok, [], false⟩ }.serves = false
    ∧ (Instr.getStatus 9).request = some (9, .getStatus) ∧ Request.getStatus.fits = true ∧ (9 : Byte) ≠ 0 := by decide

theorem witness_TransmitArbiter_frames :
    (CueAction.toggle 3, (3 : Byte)) ∈ [(CueAction.pulse 3, 0), (.set 3, 1), (.clear 3, 2), (.toggle 3, 3)]
    ∧ ∀ k, (0x25 : Byte).getLsbD k = ([0, 2, 5] : List (Fin 6)).any fun i => i.val == k := by
  refine ⟨by decide, fun k => ?_⟩
  by_cases h : k < 8
  · exact (by decide : ∀ k : Fin 8, (0x25 : Byte).getLsbD k.val = ([0, 2, 5] : List (Fin 6)).any fun i => i.val == k.val) ⟨k, h⟩
  · rw [BitVec.getLsbD_of_ge _ _ (by omega)]
    simp
    omega

theorem test_report_bytes_of_backout :
    (Sending.report ⟨0x01020304, 7, .backout (some ⟨2, 6, 300⟩) true (some 3071)⟩ true).bytes.take 21
      = [0xA5, 0, 18, 0x81, 0, 7, 1, 2, 3, 4, 7, 1, 2, 6, 1, 44, 1, 1, 0x0B, 0xFF, 1] := by decide

theorem test_reply_bytes_of_no_such_order :
    (Sending.reply ⟨9, .noSuchOrder, [], false⟩).bytes.take 6 = [0xA5, 0, 3, 0x80, 9, 33] := by decide

/-- Four frames and some replies wait. -/
def crowded (replies : Nat) : State :=
  State.reset.updLink fun l =>
    { l with received := List.replicate 4 ⟨15, 0x18, [0]⟩, replies := List.replicate replies ⟨11, .ok, [], false⟩ }

theorem witness_FramesTurnedAway :
    (Instr.getStatus 3).request = some (3, .getStatus) ∧ (crowded 4).powered = true
    ∧ 4 ≤ (crowded 4).link.received.length ∧ 4 ≤ (crowded 4).link.replies.length ∧ (crowded 7).link.replies.length < 8
    ∧ ¬ (crowded 8).link.replies.length < 8
    ∧ (lastByte 3 4).powered = true ∧ (lastByte 3 4).link.serves = false ∧ (lastByte 3 4).link.received.length < 4
    ∧ State.reset.link.received = [] ∧ State.reset.link.serves = true ∧ State.reset.takes 255
    ∧ (1 : Byte) ≠ 0 ∧ decodeRequest 0x7F [] = .error .unknownKind ∧ decodeRequest 0x01 [0] = .error .badLength := by
  decide

/-- A LOAD_MENU command of 114 records, which no frame can carry. -/
def longMenu : Instr := .loadMenu 9 0 (List.replicate 114 ⟨0, 1, 0, 0, 0, 0⟩)

theorem witness_FramesTurnedAway_long :
    longMenu.request = some (9, .loadMenu 0 (List.replicate 114 ⟨0, 1, 0, 0, 0, 0⟩))
    ∧ (Request.loadMenu 0 (List.replicate 114 ⟨0, 1, 0, 0, 0, 0⟩)).fits = false ∧ State.reset.takes 9
    ∧ ((after longMenu State.reset).link.replies.map (·.result)) = [.badLength] := by decide +kernel

theorem witness_RefusalsChangeNothing :
    (Instr.pickup 3 601).request = some (3, .pickup 601) ∧ (Request.pickup 601).fits = true ∧ State.reset.takes 3
    ∧ (requestEffect (.pickup 601) State.reset).2.result ≠ .ok
    ∧ 5 < (6 : Byte).toNat ∧ 7 < (8 : Byte).toNat ∧ 15 < (16 : Byte).toNat ∧ 127 < (128 : Byte).toNat ∧ 3 < (4 : Byte).toNat := by
  decide

theorem witness_RefusalsChangeNothing_screens :
    State.reset.takes 3 ∧ ([] : List SegmentWire).length ≤ 127 ∧ (5 : Byte).toNat = (5 : Fin 6).val ∧ (shown .running none).takes 3
    ∧ (shown .running none).screens[0].state = .running ∧ (shown .holding none).screens[0].state = .holding
    ∧ State.reset.screens[5].state ≠ .running ∧ State.reset.screens[5].state ≠ .holding
    ∧ 32 < (List.replicate 33 (⟨2, 1, 0, 0, 0, 0⟩ : SegmentWire)).length ∧ segment? ⟨2, 0, 0, 0, 0, 0⟩ = none
    ∧ segment? ⟨5, 1, 0, 0, 0, 0⟩ = none ∧ segment? ⟨4, 1, 2, 2, 3, 0⟩ = none
    ∧ 24 < (List.replicate 25 (⟨0, 0, 0, 0, 0, 0, 0⟩ : CueWire)).length ∧ cue? ⟨32, 0, 0, 0, 0, 0, 0⟩ = none
    ∧ cue? ⟨31, 0, 3, 4, 0, 0, 0⟩ = none ∧ cue? ⟨31, 0, 5, 0, 1, 0, 0⟩ = none ∧ cue? ⟨31, 0, 4, 0, 0, 3, 0⟩ = none
    ∧ cue? ⟨31, 0, 4, 0, 1, 4, 0⟩ = none ∧ (shown .closing none).screens[0].state = .closing
    ∧ (shown .strikeWait none).screens[0].state ∉ [ScreenState.dark, .closing]
    ∧ ({ State.reset with book := { State.reset.book with records := Vector.replicate 16 openRecord } }.screens[5].state = .dark
      ∧ ∀ r : Fin 16, { State.reset with book := { State.reset.book with
          records := Vector.replicate 16 openRecord } }.book.records[r].state ≠ .free) := by decide

theorem witness_RefusalsChangeNothing_announce :
    3 < (4 : Byte).toNat ∧ 63 < (64 : Byte).toNat ∧ (255 : Byte) ≠ 0 ∧ (3 : Byte).toNat ≤ 3 ∧ (63 : Byte).toNat ≤ 63
    ∧ (waiting 32 .ducking).takes 3 ∧ 32 ≤ (waiting 32 .ducking).announce.queue.length
    ∧ (∀ e ∈ (waiting 1 .ducking).announce.queue, e.number ≠ (0 : Half).toNat)
    ∧ (∀ e ∈ (airing .playing none).announce.queue, e.number ≠ (5 : Half).toNat)
    ∧ (State.reset.updAnnounce fun a => { a with onAir := some { onAir with kind := .call .recall } }).announce.onAir
        = some { onAir with kind := .call .recall } := by decide

theorem witness_RefusalsChangeNothing_gate :
    7 < (8 : Byte).toNat ∧ 2 < (3 : Byte).toNat ∧ 5 < (6 : Byte).toNat ∧ 15 < (16 : Byte).toNat
    ∧ (State.reset.takes 3 ∧ State.reset.lanes[7].pending = none ∧ State.reset.lanes[7].mode ≠ .entry)
    ∧ ((gate pendingLane).takes 3 ∧ (gate pendingLane).lanes[2].mode = .entry ∧ (gate pendingLane).lanes[2].pending ≠ none)
    ∧ ((gate lane).lanes[2].mode = .entry ∧ (gate lane).lanes[2].pending = none ∧ ((gate lane).policies 5).gate = .closed)
    ∧ (((gate lane).policies 0).gate ≠ .closed ∧ ∃ a ∈ (gate lane).cars, a.tag = (4410 : Half).toNat)
    ∧ ((∀ a ∈ (gate lane).cars, a.tag ≠ (4411 : Half).toNat) ∧ (gate lane).site.capacity.get 0 ≤ (gate lane).carCount 0)
    ∧ (∃ b ∈ (⟨0, 0, 0, 0, 0, 2⟩ : Six Byte).toList, 1 < b.toNat) ∧ 255 < (256 : Half).toNat
    ∧ 2048 < ((⟨410, 410, 410, 410, 409, 0⟩ : Six Half).toList.map fun h => min 500 h.toNat).sum
    ∧ ((⟨600, 500, 500, 500, 48, 0⟩ : Six Half).toList.map fun h => min 500 h.toNat).sum ≤ 2048
    ∧ (∃ i : Fin 6, min 500 ((⟨0, 500, 500, 500, 48, 0⟩ : Six Half).get i).toNat < (gate lane).carCount i) := by decide

theorem witness_RefusalsChangeNothing_tables :
    (65535 : Half) ≠ 0 ∧ (∀ a ∈ (gate lane).cars, a.tag ≠ (65535 : Half).toNat)
    ∧ (gate lane).findCar (4410 : Half).toNat = some ⟨4410, 0, 2, .pending, 2, 4, false, none, none, 0⟩
    ∧ (∀ o ∈ (ordered .taken [0]).orders.table, o.number ≠ (602 : Half).toNat)
    ∧ (ordered .orphaned [0]).findOrder (601 : Half).toNat = some (order .orphaned [0]) ∧ (order .orphaned [0]).state = .orphaned
    ∧ { State.reset with key := ⟨true, true, none⟩ }.key.office = true ∧ State.reset.book.records[15].state ≠ .closed
    ∧ (State.reset.updRecord 15 fun _ => openRecord).book.records[15].state ≠ .closed
    ∧ 1 < (2 : Byte).toNat ∧ 128 < (127 : Byte).toNat + [(⟨0, 0, 0, 0, 0, 0⟩ : ItemWire), ⟨0, 0, 0, 0, 0, 0⟩].length
    ∧ item? ⟨4, 0, 0, 0, 0, 0⟩ = none ∧ item? ⟨0, 0, 0, 1, 10000, 0⟩ = none ∧ item? ⟨0, 0, 0, 0, 10000, 10000⟩ = none
    ∧ 9999 < (10000 : Half).toNat ∧ (1 : Byte) ≠ 0 := by decide

theorem witness_QueriesChangeNothing :
    ordering.takes 3 ∧ (5 : Byte).toNat = (5 : Fin 6).val ∧ (7 : Byte).toNat = (7 : Fin 8).val
    ∧ (15 : Byte).toNat = (15 : Fin 16).val ∧ (3071 : Half) ≠ 0 ∧ ordering.findCar (3071 : Half).toNat = some car
    ∧ (601 : Half) ≠ 0 ∧ (ordered .called []).takes 3 ∧ (ordered .called []).findOrder (601 : Half).toNat = some (order .called []) := by
  decide

theorem witness_SiteResetAndSupplyLosses :
    State.reset.takes 255 ∧ State.reset.vbackup = true ∧ State.reset.powered = true
    ∧ (after .backupSupplyLoss State.reset).vbackup = false ∧ (after .mainPowerLoss State.reset).powered = false := by decide

theorem witness_StartOfTheBackupDomain :
    (after .backupSupplyLoss State.reset).vbackup = false
    ∧ (after .backupSupplyLoss (after .mainPowerLoss State.reset)).book.valid = false
    ∧ ending.restarts .siteResetReset (Config.strapLevel 0) ∧ ending.restarts .txFrameEnd (Config.strapLevel 0)
    ∧ (shown .running none).book.valid = true ∧ (shown .running none).vbackup = true :=
  ⟨rfl, rfl, ⟨rfl, rfl, .inl rfl, rfl⟩, ⟨rfl, rfl, .inr rfl, rfl⟩, rfl, rfl⟩

theorem witness_StartResetsScreensCuesChannels :
    State.reset.starts (.powerOn true) true ∧ ending.starts .siteResetReset (Config.strapLevel 0)
    ∧ ending.starts .txFrameEnd (Config.strapLevel 0) :=
  ⟨.inl rfl, .inr ⟨rfl, rfl, .inl rfl, rfl⟩, .inr ⟨rfl, rfl, .inr rfl, rfl⟩⟩

theorem witness_StartResetsTheOtherBlocks :
    State.reset.starts (.powerOn true) true ∧ ending.starts .siteResetReset (Config.strapLevel 0)
    ∧ ending.starts .txFrameEnd (Config.strapLevel 0) :=
  ⟨.inl rfl, .inr ⟨rfl, rfl, .inl rfl, rfl⟩, .inr ⟨rfl, rfl, .inr rfl, rfl⟩⟩

theorem witness_ScreenStateDrivesItsLines : State.reset.powered = true := by decide

theorem witness_EffectivePolicyTable :
    (shown .running (some ⟨1, 2⟩)).screens[0].state = .running ∧ (shown .running (some ⟨1, 2⟩)).screens[0].position = some ⟨1, 2⟩
    ∧ (shown .running (some ⟨1, 2⟩)).screens[0].program = some twoSegments ∧ twoSegments[1]? = some interval
    ∧ (shown .holding (some ⟨1, 3⟩)).screens[0].state = .holding ∧ (shown .holding (some ⟨1, 3⟩)).screens[0].position = some ⟨1, 3⟩
    ∧ (shown .ready none).screens[0].state ∈ [ScreenState.strikeWait, .striking, .ready]
    ∧ (shown .closing none).screens[0].state ∈ [ScreenState.dark, .closing] := by decide

theorem witness_LoadsReplaceWhole :
    State.reset.takes 1 ∧ (5 : Byte).toNat = (5 : Fin 6).val ∧ State.reset.screens[5].state ≠ .running
    ∧ State.reset.screens[5].state ≠ .holding
    ∧ readAll segment? (List.replicate 32 ⟨2, 7300, 1, 0, 2, 1⟩) =
        some (List.replicate 32 ⟨.feature, 7300, .admitLate, .opened, .none, true⟩)
    ∧ readAll cue? (List.replicate 24 ⟨31, 48, 4, 0, 17, 3, 1⟩) = some (List.replicate 24 ⟨31, 48, .announce 17 3, true⟩)
    ∧ readAll cue? [] = some [] := by decide

/-- Every record but the last is CLOSED. -/
def lastFree : State :=
  { State.reset with book := { State.reset.book with
    records := vmod (Vector.replicate 16 { openRecord with state := .closed }) 15 fun _ => .freed } }

theorem witness_StrikeOpensARecordAndQueues :
    lastFree.takes 1 ∧ (5 : Byte).toNat = (5 : Fin 6).val ∧ lastFree.screens[5].state = .dark
    ∧ lastFree.book.records[15].state = .free ∧ (∀ q : Fin 16, q < 15 → lastFree.book.records[q].state ≠ .free)
    ∧ State.reset.book.records[0].state = .free := by decide

theorem witness_CountBookArithmetic :
    [65535, 1, 3].length < 65535 ∧ (shown .ready none).book.records[2].state = .opened
    ∧ (shown .ready none).book.records[2].show_ = some 57 ∧ (shown .ready none).book.records[3].state ≠ .opened
    ∧ (shown .ready none).book.records[2].show_ ≠ some 58
    ∧ { (shown .ready none).book with showCounter := 65535 }.nextShow = 65535
    ∧ { (shown .ready none).book with showCounter := 57 }.nextShow = 58
    ∧ { (ordered .taken [0]).orders with counter := 65535 }.nextOrder = 65535
    ∧ { (ordered .taken [0]).orders with counter := 601 }.nextOrder = 602
    ∧ (ordered .taken [0]).orders.table.length ≤ 128 := by decide

theorem witness_ArbiterGrantsTheHead :
    State.reset.strikeQueue = [] ∧ (shown .striking none).screens[0].state = .striking
    ∧ { State.reset with spacing := some 5000 }.spacing ≠ none
    ∧ { shown .strikeWait none with strikeQueue := [0] }.strikeQueue = 0 :: []
    ∧ { shown .strikeWait none with strikeQueue := [0] }.screens[0].state = .strikeWait
    ∧ (∀ j : Fin 6, { shown .strikeWait none with strikeQueue := [0] }.screens[j].state ≠ .striking)
    ∧ { shown .strikeWait none with strikeQueue := [0] }.spacing = none
    ∧ { State.reset with spacing := some 0 }.powered = true ∧ { State.reset with spacing := some 0 }.spacing = some 0
    ∧ ((shown .striking none).updScreen 0 fun c => { c with strikeTimer := some 0 }).screens[0].strikeTimer = some 0
    ∧ ((shown .striking none).updScreen 0 fun c => { c with strikeTimer := some 0 }).screens[0].state = .striking := by
  decide

/-- A READY screen with the longest program. -/
def longProgram : State := (shown .ready none).updScreen 0 fun c => { c with program := some (List.replicate 32 interval) }

/-- The same with a cue at one offset of the last segment. -/
def cued (offset : Nat) : State := longProgram.updCue 0 fun u => { u with table := [⟨31, offset, .set 3, true⟩] }

theorem witness_GoStartsTheProgram :
    (cued 2).takes 1 ∧ (0 : Byte).toNat = (0 : Fin 6).val ∧ (31 : Byte).toNat ≤ 31 ∧ (cued 2).screens[0].state = .ready
    ∧ (cued 2).screens[0].program = some (List.replicate 32 interval)
    ∧ (List.replicate 32 interval)[(31 : Byte).toNat]? = some interval
    ∧ (∀ e ∈ (cued 2).cues[0].table, (List.replicate 32 interval)[e.segment]? = some interval ∧ e.offset < interval.length)
    ∧ (cued 2).screens[0].bound = some 2
    ∧ (cued 2).book.records[2].state = .opened ∧ (cued 2).book.records[2].show_ = some 57 := by decide

theorem witness_GoStartsTheProgram_refused :
    5 < (6 : Byte).toNat ∧ 31 < (32 : Byte).toNat ∧ (shown .striking none).screens[0].state ≠ .ready
    ∧ ((shown .ready none).updScreen 0 fun c => { c with program := none }).screens[0].program = none
    ∧ (shown .ready none).screens[0].program = some twoSegments ∧ twoSegments.length ≤ (2 : Byte).toNat
    ∧ (31 : Byte).toNat < (List.replicate 32 interval).length
    ∧ (∃ e ∈ (cued 3).cues[0].table, (List.replicate 32 interval)[e.segment]? = some interval ∧ interval.length ≤ e.offset)
    ∧ (∃ e ∈ [(⟨2, 0, .set 0, true⟩ : CueEntry)], twoSegments[e.segment]? = none) := by decide

/-- The screen held, for a reason, at a position. -/
def held (why : HoldReason) (p : Position) : State :=
  (shown .holding (some p)).updScreen 0 fun c => { c with holdReason := why }

theorem witness_HoldFrameLossAndResume :
    (0 : Byte).toNat = (0 : Fin 6).val ∧ (shown .running (some ⟨0, 1⟩)).takes 1
    ∧ (shown .running (some ⟨0, 1⟩)).screens[0].state = .running
    ∧ (held .operator ⟨0, 1⟩).takes 1 ∧ (held .operator ⟨0, 1⟩).screens[0].state = .holding
    ∧ ((shown .running (some ⟨0, 1⟩)).updScreen 0 fun c => { c with frameLossTimer := some 0 }).screens[0].frameLossTimer = some 0
    ∧ (held .operator ⟨0, 1⟩).screens[0].holdReason ≠ .segmentHold ∧ (held .operator ⟨0, 1⟩).screens[0].position = some ⟨0, 1⟩
    ∧ (held .operator ⟨0, 1⟩).screens[0].program = some twoSegments ∧ twoSegments[0]? = some feature := by decide

theorem witness_ResumeAndSkipMoveOn :
    (held .segmentHold ⟨0, 2⟩).takes 1 ∧ (held .segmentHold ⟨0, 2⟩).screens[0].state = .holding
    ∧ (held .segmentHold ⟨0, 2⟩).screens[0].holdReason = .segmentHold
    ∧ (held .segmentHold ⟨0, 2⟩).screens[0].position = some ⟨0, 2⟩
    ∧ (held .segmentHold ⟨0, 2⟩).screens[0].program = some twoSegments
    ∧ twoSegments[0]? = some feature ∧ twoSegments[0 + 1]? = some interval
    ∧ (held .segmentHold ⟨1, 3⟩).screens[0].position = some ⟨1, 3⟩ ∧ twoSegments[1]? = some interval
    ∧ twoSegments.length ≤ 1 + 1 ∧ (held .segmentHold ⟨1, 3⟩).screens[0].autoClose = false
    ∧ (shown .running (some ⟨0, 1⟩)).screens[0].state = .running ∧ (shown .running (some ⟨0, 1⟩)).takes 1 := by decide

/-- A state whose Screen 0 ends its show by itself. -/
def closingShow (s : State) : State := s.updScreen 0 fun c => { c with autoClose := true }

theorem witness_ResumeAndSkipMoveOn_end :
    (held .operator ⟨0, 0⟩).screens[0].holdReason = .operator ∧ (held .pictureLost ⟨1, 3⟩).screens[0].state = .holding
    ∧ (closingShow (held .pictureLost ⟨1, 3⟩)).takes 1 ∧ (closingShow (held .pictureLost ⟨1, 3⟩)).screens[0].autoClose = true
    ∧ (shown .running (some ⟨1, 0⟩)).screens[0].position = some ⟨1, 0⟩ ∧ (shown .running (some ⟨1, 0⟩)).screens[0].autoClose = false
    ∧ (closingShow (shown .running (some ⟨1, 0⟩))).screens[0].autoClose = true
    ∧ (closingShow (shown .running (some ⟨1, 0⟩))).takes 1 := by decide

theorem witness_StopAndCooldown :
    (shown .striking none).takes 1 ∧ (0 : Byte).toNat = (0 : Fin 6).val
    ∧ (shown .striking none).screens[0].state ∈ [ScreenState.ready, .running, .holding, .striking]
    ∧ (shown .strikeWait none).screens[0].state = .strikeWait
    ∧ (shown .closing none).screens[0].state ∈ [ScreenState.dark, .closing]
    ∧ ((shown .closing none).updScreen 0 fun c => { c with cooldownTimer := some 0 }).screens[0].cooldownTimer = some 0 := by
  decide

theorem witness_TeardownReleasesTheShow :
    (shown .running none).screens[0].bound = some 2 ∧ State.reset.screens[0].bound = none ∧ (3 : Fin 6) ≠ 0 ∧ (shown .running none).book.records[2].screen = some 0
    ∧ (shown .running none).book.records[2].show_ = some 57 ∧ (shown .running none).book.records[2].openedAt = some 7 := by decide

/-- Two cars of Screen 0, one pending in Lane 2 and one on the lot with two orders, and one car of Screen 5. -/
def crowdedLot : State :=
  { gate pendingLane with
    cars := [{ car with openOrders := 2 }, ⟨4410, 0, 2, .pending, 2, 4, false, none, none, 0⟩, { car with tag := 65535, screen := 5 }]
    orders := { State.reset.orders with
      table := [order .taken [0], { order .called [] with number := 65535 }]
      ready := vmod State.reset.orders.ready 0 fun _ => [65535] } }

theorem crowdedLot_admissions : crowdedLot.admissionsOk := by
  refine ⟨fun l p h => ?_, by decide⟩
  have key : ∀ l : Fin 8, (crowdedLot.lanes[l].pending.all fun p => decide (∃ c ∈ crowdedLot.cars,
      c.tag = p.tag ∧ c.screen = p.screen ∧ c.record = p.record ∧ c.state = .pending ∧ c.lane = l)) = true := by decide
  have := key l
  rw [h] at this
  exact of_decide_eq_true this

theorem witness_TeardownReleasesTheShow_cars :
    carsRise crowdedLot.cars ∧ crowdedLot.admissionsOk ∧ ordersRise crowdedLot.orders.table
    ∧ (crowdedLot.cars.filter fun c => c.screen = 0 ∧ c.state = .onLot).map (·.tag) = [3071] := by
  refine ⟨?_, crowdedLot_admissions, ?_, by decide⟩
  · unfold carsRise
    decide
  · unfold ordersRise
    decide

theorem test_sweep_of_the_crowded_lot :
    (crowdedLot.teardown 0).orders.table = [order .orphaned [0]] ∧ (crowdedLot.teardown 0).orders.ready[0] = []
    ∧ (crowdedLot.teardown 0).book.records[2].counts.ordersExpired = 1 ∧ (crowdedLot.teardown 0).book.records[2].state = .closed
    ∧ (crowdedLot.teardown 0).link.reports.map (·.record.code) = [0x06, 0x0F, 0x0F, 0x13] := by decide

/-- Screen 0 in the last frame of its feature, which holds at its end. -/
def heldAtEnd : State :=
  (shown .running (some ⟨0, 1⟩)).updScreen 0 fun c => { c with program := some [{ feature with holdAtEnd := true }] }

theorem witness_FramePulses :
    (shown .ready none).powered = true ∧ (shown .ready none).screens[0].state ≠ .running
    ∧ (shown .running (some ⟨1, 0⟩)).screens[0].state = .running
    ∧ (shown .running (some ⟨1, 0⟩)).screens[0].position = some ⟨1, 0⟩
    ∧ (shown .running (some ⟨1, 0⟩)).screens[0].program = some twoSegments ∧ twoSegments[1]? = some interval
    ∧ 0 + 1 ≠ interval.length
    ∧ (shown .running (some ⟨0, 1⟩)).screens[0].position = some ⟨0, 1⟩ ∧ twoSegments[0]? = some feature
    ∧ 1 + 1 = feature.length ∧ feature.holdAtEnd = false ∧ twoSegments[0 + 1]? = some interval
    ∧ heldAtEnd.screens[0].position = some ⟨0, 1⟩ ∧ heldAtEnd.screens[0].program = some [{ feature with holdAtEnd := true }]
    ∧ ({ feature with holdAtEnd := true } : Segment).holdAtEnd = true
    ∧ [feature].length ≤ 0 + 1 ∧ heldAtEnd.screens[0].autoClose = false := by decide

theorem witness_FramePulses_close :
    (closingShow (shown .running (some ⟨1, 2⟩))).screens[0].autoClose = true
    ∧ (closingShow ((shown .running (some ⟨0, 1⟩)).updScreen 0 fun c => { c with program := some [feature] })).screens[0].program
        = some [feature]
    ∧ feature.holdAtEnd = false ∧ 1 + 1 = feature.length ∧ [feature].length ≤ 0 + 1 := by decide

theorem witness_CueActions :
    (⟨0, 1, .toggle 3, true⟩ : CueEntry).action = .toggle 3
    ∧ (State.reset.updCue 0 fun u => { u with timers := vmod u.timers 3 fun _ => some 0 }).cues[0].timers[3] = some 0
    ∧ (⟨0, 1, .announce 9 3, false⟩ : CueEntry).action = .announce 9 3 ∧ (⟨0, 1, .announce 9 3, false⟩ : CueEntry).report = false
    ∧ (waiting 32 .ducking).announce.queue.length = 32 ∧ (waiting 31 .ducking).announce.queue.length < 32
    ∧ (waiting 31 .ducking).announce.state ≠ .idle ∧ (waiting 31 .idle).announce.state = .idle
    ∧ (⟨0, 1, .announce 255 0, true⟩ : CueEntry).report = true := by decide

theorem test_entries_fire_in_table_order :
    ((State.reset.updCue 0 fun u => { u with
        table := [⟨0, 1, .set 2, false⟩, ⟨0, 2, .set 3, false⟩, ⟨0, 1, .clear 2, false⟩] }).fireAt 0 ⟨0, 1⟩).cues[0].levels.toList
      = [false, false, false, false] := by decide

theorem witness_MixArithmetic : 32767 ≤ 32767 ∧ 16384 ≤ 16384 := by decide
theorem witness_DuckRamp : 1 ≤ 64 ∧ 5000 ≤ 16384 := by decide
theorem witness_SampleTick : State.reset.powered = true := by decide

theorem witness_DelayLineDelays :
    Ring.wf Channel.reset.ring = true ∧ Channel.reset.writePoint < 2048
    ∧ { Channel.reset with delay := 2047, writePoint := 2047 }.delay ≤ 2047
    ∧ (List.replicate 2047 Frame.zero).length = { Channel.reset with delay := 2047, writePoint := 2047 }.delay := by
  exact ⟨rfl, by decide, by decide, List.length_replicate⟩

theorem witness_FeatureFramesAndChannelRequests :
    State.reset.powered = true ∧ State.reset.channels[5].input.length < 8
    ∧ 8 ≤ (State.reset.updChannel 5 fun c => { c with input := List.replicate 8 ⟨0, 0⟩ }).channels[5].input.length
    ∧ State.reset.takes 1 ∧ (5 : Byte).toNat = (5 : Fin 6).val := by decide

theorem witness_AnnounceEnqueues :
    (waiting 31 .idle).takes 1 ∧ (255 : Byte) ≠ 0 ∧ (3 : Byte).toNat ≤ 3 ∧ (63 : Byte) ≠ 0 ∧ (63 : Byte).toNat ≤ 63
    ∧ (waiting 31 .idle).announce.queue.length < 32 := by decide

/-- The path IDLE with one entry waiting and every channel at its duck level. -/
def atLevels : State :=
  { waiting 1 .idle with channels := Vector.replicate 6 { Channel.reset with duckGain := 4096 } }

/-- Screen 0 in its interval, which lets urgent announcements through alone. -/
def urgentOnly : State := { shown .running (some ⟨1, 0⟩) with announce := (waiting 1 .idle).announce }

theorem witness_TheGrant :
    (waiting 2 .idle).announce.state = .idle
    ∧ bestEntry (fun x => !((waiting 2 .idle).eligible x).isEmpty) (waiting 2 .idle).announce.queue = some (0, entry)
    ∧ (∀ i ∈ entry.targets, i ∈ (waiting 2 .idle).eligible entry)
    ∧ (∃ i ∈ (waiting 2 .idle).eligible entry,
        (waiting 2 .idle).channels[i].duckGain ≠ (waiting 2 .idle).channels[i].duckLevel)
    ∧ bestEntry (fun x => !(atLevels.eligible x).isEmpty) atLevels.announce.queue = some (0, entry)
    ∧ (∀ i ∈ atLevels.eligible entry, atLevels.channels[i].duckGain = atLevels.channels[i].duckLevel)
    ∧ bestEntry (fun x => !(urgentOnly.eligible x).isEmpty) urgentOnly.announce.queue = some (0, entry)
    ∧ urgentOnly.eligible entry = [3] ∧ urgentOnly.eligible { entry with priority := 3 } = [0, 3]
    ∧ (∀ e ∈ [{ entry with targets := [0] }], urgentOnly.eligible e = []) ∧ (waiting 2 .playing).announce.state ≠ .idle := by
  decide

theorem witness_TheGrant_channels (s : State) (e : Entry) (atLevel : Bool) :
    ∃ v : Vector Channel 6, ∀ i : Fin 6, v[i] = if i ∈ s.eligible e then { s.channels[i] with
      mode := .level, atLevel := s.channels[i].duckGain == s.channels[i].duckLevel
      feedOpen := atLevel || s.channels[i].feedOpen } else s.channels[i] :=
  ⟨Vector.ofFn fun i => if i ∈ s.eligible e then { s.channels[i] with
      mode := .level, atLevel := s.channels[i].duckGain == s.channels[i].duckLevel
      feedOpen := atLevel || s.channels[i].feedOpen } else s.channels[i], by simp⟩

/-- The granted channels at their level. -/
def levelled : State :=
  { airing .ducking none with channels := Vector.replicate 6 { Channel.reset with duckGain := 4096, mode := .level, atLevel := true } }

theorem witness_PlayingStartsAtLevel :
    State.reset.powered = true ∧ State.reset.announce.state ≠ .ducking
    ∧ (airing .ducking none).announce.state = .ducking ∧ (airing .ducking none).announce.onAir = some onAir
    ∧ (∃ j ∈ onAir.granted, (airing .ducking none).channels[j].atLevel = false)
    ∧ levelled.announce.state = .ducking ∧ levelled.announce.onAir = some onAir
    ∧ (∀ j ∈ onAir.granted, levelled.channels[j].atLevel = true) := by decide

theorem witness_EndOfPlay :
    (airing .playing (some 0)).powered = true ∧ (airing .playing (some 0)).announce.state = .playing
    ∧ (airing .playing (some 0)).announce.onAir = some onAir ∧ (airing .playing (some 0)).announce.timer = some 0
    ∧ (airing .playing (some 0)).doneLine = false := by decide

theorem witness_DonePolicyNoticeAndCancel :
    State.reset.announce.state ≠ .playing ∧ (airing .playing none).announce.state ≠ .idle ∧ State.reset.announce.state = .idle
    ∧ (waiting 1 .idle).takes 1 ∧ (waiting 1 .idle).announce.queue.find? (·.number == (5 : Half).toNat) = some entry
    ∧ entry.kind = .operator ∧ (waiting 1 .idle).announce.onAir = none
    ∧ (airing .playing none).takes 1 ∧ (airing .playing none).announce.onAir = some onAir ∧ onAir.number = (5 : Half).toNat
    ∧ onAir.kind = .operator ∧ (airing .playing none).announce.queue = []
    ∧ (State.reset.updAnnounce fun a => { a with queue := [{ entry with kind := .call .recall }] }).announce.queue.find?
        (·.number == (5 : Half).toNat) = some { entry with kind := .call .recall } := by decide

theorem witness_DonePolicyNoticeAndCancel_split :
    ((airing .playing none).updAnnounce fun a => { a with queue := [entry] }).takes 1
    ∧ ((airing .playing none).updAnnounce fun a => { a with queue := [entry] }).announce.queue.find? (·.number == (5 : Half).toNat)
        = some entry
    ∧ entry.kind = .operator ∧ onAir.number = (5 : Half).toNat := by decide

/-- Lane 2's tracker about to see a passage. -/
def passing (m : LaneMode) (d : Direction) (a : Option Attribution) : State :=
  gate (if d = .rev then { lane with mode := m, direction := d, debA := true, timerA := some 0, attribution := a }
    else { lane with mode := m, direction := d, debB := true, timerB := some 0, attribution := a })

theorem witness_LoopEvents :
    State.reset.powered = true ∧ (passing .exit .fwd none).lanes[2].timer .b ≠ none
    ∧ ((passing .disabled .fwd none).lanes[2].debounced .b).mode = .disabled
    ∧ ((passing .exit .fwd none).lanes[2].debounced .b).mode = .exit
    ∧ track false true false false .fwd = (.none, some .forward) ∧ track true false false false .rev = (.none, some .reverse)
    ∧ (passing .exit .rev none).lanes[2].timer .a ≠ none
    ∧ track false true false false .none = (.none, none)
    ∧ ((passing .entry .fwd (some ⟨0, 2, 57⟩)).lanes[2].debounced .b).mode = .entry
    ∧ ((passing .entry .fwd (some ⟨0, 2, 57⟩)).lanes[2].debounced .b).pending = none
    ∧ ((passing .entry .fwd (some ⟨0, 2, 57⟩)).lanes[2].debounced .b).attribution = some ⟨0, 2, 57⟩
    ∧ ((passing .entry .rev none).lanes[2].debounced .a).attribution = none := by decide

theorem witness_PassageTracker : false ≠ true := by decide

theorem witness_ForwardPassageCompletes :
    (gate pendingLane).powered = true ∧ (gate pendingLane).lanes[2].timer .b ≠ none ∧ (gate pendingLane).lanes[2].mode = .entry
    ∧ (gate pendingLane).lanes[2].pending = some admission
    ∧ (track (gate pendingLane).lanes[2].debA (gate pendingLane).lanes[2].debB ((gate pendingLane).lanes[2].debounced .b).debA
        ((gate pendingLane).lanes[2].debounced .b).debB (gate pendingLane).lanes[2].direction).2 = some .forward
    ∧ (gate pendingLane).findCar admission.tag = some ⟨4410, 0, 2, .pending, 2, 4, false, none, none, 0⟩
    ∧ (gate pendingLane).book.records[2].state = .opened ∧ (gate pendingLane).book.records[2].show_ = some 57 := by decide

/-- Lane 7 in ENTRY, and a lot of one car for Screen 0. -/
def open7 : State :=
  { shown .ready none with
    lanes := vmod State.reset.lanes 7 fun _ => lane, site := { SiteSettings.reset with capacity := ⟨1, 0, 0, 0, 0, 0⟩ } }

theorem witness_AdmitRaisesTheBarrier :
    open7.takes 1 ∧ (7 : Byte).toNat = (7 : Fin 8).val ∧ (0 : Byte).toNat = (0 : Fin 6).val ∧ (65535 : Half) ≠ 0
    ∧ 1 ≤ (1 : Byte).toNat ∧ (15 : Byte).toNat ≤ 15 ∧ open7.lanes[7].mode = .entry ∧ open7.lanes[7].pending = none
    ∧ (open7.policies 0).gate ≠ .closed ∧ open7.findCar (65535 : Half).toNat = none
    ∧ open7.carCount 0 < open7.site.capacity.get 0 ∧ open7.screens[0].bound = some 2 := by decide

theorem witness_AdmissionEndsUnused :
    (gate pendingLane).lanes[2].pending = some admission ∧ (gate pendingLane).powered = true
    ∧ (gate pendingLane).lanes[2].admTimer = some 60000 ∧ (gate pendingLane).book.records[admission.record].state = .opened
    ∧ (gate pendingLane).book.records[admission.record].show_ = some 57 ∧ (gate pendingLane).takes 1
    ∧ (2 : Byte).toNat = (2 : Fin 8).val := by decide

/-- SET_SITE at the ends of its ranges. -/
def siteWire : SiteWire := ⟨61, ⟨501, 500, 500, 500, 48, 0⟩, ⟨0, 0, 0, 1, 1, 1⟩, 1, 255, 29, 6⟩

theorem witness_LaneAndSiteSettings :
    State.reset.takes 1 ∧ (7 : Byte).toNat = (7 : Fin 8).val ∧ (2 : Byte).toNat = LaneMode.exit.code
    ∧ State.reset.lanes[7].pending = none ∧ (gate pendingLane).lanes[2].pending ≠ none
    ∧ LaneMode.exit ≠ (gate pendingLane).lanes[2].mode ∧ (gate pendingLane).takes 1
    ∧ windows? siteWire.window = some ⟨0, 0, 0, 1, 1, 1⟩ ∧ 1 ≤ siteWire.orderClip.toNat ∧ siteWire.recallClip.toNat ≤ 255
    ∧ [500, 500, 500, 500, 48, 0].sum ≤ 2048 ∧ (∀ i : Fin 6, State.reset.carCount i ≤ 0) := by decide

/-- Car 3071 with an order in each state: one deferred, one with its call waiting. -/
def leaving : State :=
  { ordering with
    orders := { ordering.orders with
      table := [order .taken [0], { order .ready [] with number := 602, deferredMark := true },
        { order .called [] with number := 603 }, { order .orphaned [2] with number := 604 }]
      ready := vmod ordering.orders.ready 0 fun _ => [603, 602], deferred := [⟨602, .orderReady⟩] }
    announce := { (airing .playing none).announce with queue := [entry, ⟨830, .call .recall, 1, [0], 2, some 3071, some 603⟩] } }

theorem witness_CheckoutReleasesTheCar :
    leaving.takes 1 ∧ (3071 : Half) ≠ 0 ∧ leaving.findCar (3071 : Half).toNat = some car
    ∧ car.state = .onLot ∧ car.admitted = some 0 ∧ (leaving.orders.table.map (·.number)).Nodup
    ∧ ((leaving.orders.table.filter fun o => o.tag = (3071 : Half).toNat ∧ o.state ≠ .orphaned).map (·.number)) = [601, 602, 603]
    ∧ (order .ready []).record = car.record ∧ (order .ready []).show_ = 57
    ∧ leaving.book.records[car.record].state = .opened ∧ leaving.book.records[car.record].show_ = some 57
    ∧ (after (.checkout 1 3071) leaving).orders.ready[0] = [] ∧ (after (.checkout 1 3071) leaving).notices = [.slotFree]
    ∧ (after (.checkout 1 3071) leaving).book.records[2].counts.ordersExpired = 2
    ∧ (after (.checkout 1 3071) leaving).link.replies = [⟨1, .ok, [0, 2, 0, 0, 0, 0, 1, 2], false⟩]
    ∧ (after (.checkout 1 3071) (ordered .taken [0])).book = (ordered .taken [0]).book := by decide

theorem witness_AuditKeyAndPolicy :
    State.reset.powered = true ∧ { State.reset with key := ⟨true, false, some 0⟩ }.key.timer = some 0
    ∧ State.reset.takes 1 ∧ (15 : Byte).toNat = (15 : Fin 16).val
    ∧ (State.reset.updRecord 15 fun c => { c with state := .closed }).book.records[15].state = .closed
    ∧ { State.reset with key := ⟨true, true, none⟩ }.key.office = true
    ∧ State.reset.book.policy = .keyed ∧ State.reset.key.office = false ∧ State.reset.book.records[15].state = .free
    ∧ (shown .running none).takes 1 ∧ (shown .running none).book.records[2].state = .opened
    ∧ (shown .running none).book.policy = .keyed ∧ (shown .running none).key.office = false ∧ (0 : Byte).toNat = CountPolicy.free.code := by
  decide

theorem witness_Clocks : State.reset.takes 1 ∧ State.reset.powered = true
    ∧ (after .mainPowerLoss State.reset).book.valid = true := by decide

theorem witness_KitchenRequests :
    State.reset.takes 1 ∧ (15 : Byte).toNat + (List.replicate 113 (⟨3, 1801, 1, 1, 9999, 9999⟩ : ItemWire)).length ≤ 128
    ∧ readAll item? (List.replicate 113 ⟨3, 1801, 1, 1, 9999, 9999⟩) = some (List.replicate 113 ⟨3, 1800, true, some 9999, 9999⟩)
    ∧ (127 : Byte).toNat = (127 : Fin 128).val ∧ (9999 : Half).toNat ≤ 9999 ∧ (3 : Byte).toNat = (3 : Fin 4).val := by
  decide +kernel

/-- Station 0 about to debounce a press, or a release. -/
def bumping (raw : Bool) : State :=
  { State.reset with kitchen := { kitchen with
    stations := vmod kitchen.stations 0 fun x => { x with bump := ⟨raw, !raw, some 0⟩ } } }

theorem witness_Buttons :
    State.reset.powered = true
    ∧ (State.reset.updHanded 1 fun _ => ⟨false, true, some 0⟩).orders.handed[1] = ⟨false, true, some 0⟩
    ∧ State.reset.orders.ready[1] = [] ∧ (bumping true).kitchen.stations[0].bump = ⟨true, false, some 0⟩
    ∧ (bumping true).kitchen.stations[0].queue = ⟨511, 0, 3, 300, some 8880⟩ :: [⟨514, 0, 1, 240, none⟩]
    ∧ (bumping false).kitchen.stations[0].bump = ⟨false, true, some 0⟩ := by decide

theorem witness_EstimateArithmetic :
    kitchen.stations[0].queue = ⟨511, 0, 3, 300, some 8880⟩ :: [⟨514, 0, 1, 240, none⟩]
    ∧ (2 : Fin 4) ∈ stationsOf kitchen.menu lines := by decide

/-- Screen 0 in its interval with so many seconds and frames left. -/
def lastCall (seconds frames : Nat) : State :=
  { ((shown .running (some ⟨0, 1⟩)).updScreen 0 fun c =>
      { c with program := some [{ interval with length := seconds * 24 + frames + 1 }] }) with cars := [car], kitchen := kitchen }

/-- Item 40 SOLD_OUT, or LOW, after one more is sold. -/
def stocked (k : Nat) : State := ordering.updItem 40 fun it => { it with stock := some k }

theorem stocked_covers : ∀ l ∈ lines, ∀ q, (stocked 1).kitchen.menu[l.item].stock = some q →
    ((lines.filter (·.item == l.item)).map (·.quantity)).sum ≤ q := by
  have key : ∀ l ∈ lines, ((stocked 1).kitchen.menu[l.item].stock.all fun q =>
      decide (((lines.filter (·.item == l.item)).map (·.quantity)).sum ≤ q)) = true := by decide
  intro l hl q h
  have := key l hl
  rw [h] at this
  exact of_decide_eq_true this

theorem witness_OrderIsTaken :
    (stocked 1).takes 1 ∧ (3071 : Half) ≠ 0 ∧ readAll line? [⟨12, 2⟩, ⟨40, 1⟩] = some lines
    ∧ readAll line? (List.replicate 12 ⟨127, 20⟩) = some (List.replicate 12 ⟨127, 20⟩)
    ∧ (stocked 1).findCar (3071 : Half).toNat = some car ∧ car.state = .onLot ∧ car.openOrders ≠ 4
    ∧ ((stocked 1).policies car.screen).order ≠ .closed
    ∧ (∀ l ∈ lines, (stocked 1).kitchen.menu[l.item].available = true
      ∧ (stocked 1).kitchen.stations[(stocked 1).kitchen.menu[l.item].station].opened = true
      ∧ (∀ q, (stocked 1).kitchen.menu[l.item].stock = some q → ((lines.filter (·.item == l.item)).map (·.quantity)).sum ≤ q)
      ∧ (stocked 1).kitchen.stations[(stocked 1).kitchen.menu[l.item].station].queue.length < 24)
    ∧ (stocked 1).orders.table.length < 128 ∧ ((stocked 1).policies car.screen).order ≠ .lastCall
    ∧ (stocked 1).book.records[car.record].state = .opened ∧ (stocked 1).book.records[car.record].show_ = some 57 := by
  refine ⟨by decide, by decide, by decide, by decide, by decide, by decide, by decide, by decide, fun l hl => ?_, by decide,
    by decide, by decide, by decide⟩
  have h : ∀ l ∈ lines, (stocked 1).kitchen.menu[l.item].available = true
      ∧ (stocked 1).kitchen.stations[(stocked 1).kitchen.menu[l.item].station].opened = true
      ∧ (stocked 1).kitchen.stations[(stocked 1).kitchen.menu[l.item].station].queue.length < 24 := by decide
  exact ⟨(h l hl).1, (h l hl).2.1, stocked_covers l hl, (h l hl).2.2⟩

theorem witness_OrderIsTaken_lastCall :
    (((lastCall 690 0).policies car.screen).order = .lastCall ∧ (lastCall 690 0).screens[0].position = some ⟨0, 1⟩)
    ∧ (lastCall 690 0).kitchen.estimate lines ≤ (690 * 24 + 0 + 1 - 1) / 24
    ∧ (689 * 24 + 23 + 1 - 1) / 24 < (lastCall 689 23).kitchen.estimate lines
    ∧ ((after (.order 1 3071 [⟨12, 2⟩, ⟨40, 1⟩]) (lastCall 690 0)).link.replies.map (·.result)) = [.ok]
    ∧ ((after (.order 1 3071 [⟨12, 2⟩, ⟨40, 1⟩]) (lastCall 689 23)).link.replies.map (·.result)) = [.tooLate] := by decide

theorem witness_OrderIsTaken_stock :
    (after (.order 1 3071 [⟨12, 2⟩, ⟨40, 1⟩]) (stocked 1)).link.reports = [⟨0, 2, .stock 40 .soldOut 0 5 1⟩]
    ∧ (after (.order 1 3071 [⟨12, 2⟩, ⟨40, 1⟩]) (stocked 5)).link.reports = [] := by decide

theorem witness_OrderIsTaken_refused :
    line? ⟨128, 1⟩ = none ∧ line? ⟨127, 0⟩ = none ∧ line? ⟨127, 21⟩ = none ∧ 12 < (List.replicate 13 (⟨12, 1⟩ : LineWire)).length
    ∧ (∀ a ∈ ordering.cars, a.tag ≠ (3072 : Half).toNat) ∧ { car with openOrders := 4 }.openOrders = 4
    ∧ ({ shown .closing none with cars := [car] }.policies car.screen).order = .closed
    ∧ (lines[1]? = some ⟨40, 1⟩ ∧ lines.take 1 = [⟨12, 2⟩]
      ∧ (ordering.updItem 40 fun it => { it with available := false }).kitchen.menu[(40 : Fin 128)].available = false
      ∧ (ordering.updItem 40 fun it => { it with available := false }).kitchen.menu[(12 : Fin 128)].available = true)
    ∧ (ordering.updStation 2 fun x => { x with opened := false }).kitchen.stations[(2 : Fin 4)].opened = false
    ∧ (stocked 0).kitchen.menu[(40 : Fin 128)].stock = some 0
    ∧ 128 ≤ (ordering.updOrders fun u => { u with table := List.replicate 128 (order .taken [0]) }).orders.table.length
    ∧ 24 ≤ (ordering.updStation 2 fun x => { x with queue := List.replicate 24 ⟨511, 2, 3, 300, none⟩ }).kitchen.stations[(2 :
        Fin 4)].queue.length := by decide +kernel

theorem witness_TicketDoneMakesReady :
    (ordered .taken [0]).powered = true ∧ ((ordered .taken [0]).orders.table.map (·.number)).Nodup
    ∧ ((ordered .taken [0, 2]).orders.table.map (·.number)).Nodup ∧ ((ordered .orphaned [0]).orders.table.map (·.number)).Nodup
    ∧ (ordered .taken [0]).findOrder 602 = none
    ∧ (ordered .taken [0]).findOrder 601 = some (order .taken [0]) ∧ (2 : Fin 4) ∉ (order .taken [0]).outstanding
    ∧ (ordered .taken [0, 2]).findOrder 601 = some (order .taken [0, 2]) ∧ (0 : Fin 4) ∈ (order .taken [0, 2]).outstanding
    ∧ (∃ x ∈ (order .taken [0, 2]).outstanding, x ≠ (0 : Fin 4))
    ∧ (order .orphaned [0]).outstanding = [0] ∧ (order .orphaned [0]).state = .orphaned
    ∧ (ordered .orphaned [0]).findOrder 601 = some (order .orphaned [0]) ∧ (order .taken [0]).state = .taken := by decide

/-- The head of the deferred list is order 601's call. -/
def deferring : State :=
  { ordered .ready [] with
    announce := (airing .playing none).announce
    orders := { (ordered .ready []).orders with deferred := [⟨601, .orderReady⟩] } }

theorem witness_CallsArePlacedAndPlayed :
    deferring.announce.queue.length < 32 ∧ deferring.announce.state ≠ .idle ∧ 32 ≤ (waiting 32 .idle).announce.queue.length
    ∧ deferring.powered = true ∧ deferring.orders.deferred = ⟨601, .orderReady⟩ :: []
    ∧ deferring.findOrder 601 = some (order .ready []) ∧ (order .ready []).state = .ready
    ∧ (order .ready []).callEntry = some 830 ∧ (order .ready []).callEntry ≠ some 831
    ∧ ∀ o ∈ deferring.orders.table, o.number ≠ 602 := by decide

theorem witness_CallsArePlacedAndPlayed_idle :
    { deferring with announce := (waiting 31 .idle).announce }.announce.queue.length < 32
    ∧ { deferring with announce := (waiting 31 .idle).announce }.announce.state = .idle
    ∧ (ordered .ready []).orders.deferred = [] ∧ (ordered .ready []).powered = true
    ∧ 32 ≤ { deferring with announce := (waiting 32 .playing).announce }.announce.queue.length := by decide

/-- Order 601 CALLED, with so many calls made and its recall timer run out. -/
def recalled (calls : Nat) : State :=
  (ordered .called []).updOrder 601 fun o => { o with calls := calls, recallTimer := some 0 }

theorem witness_RecallOrExpiry :
    (recalled 2).powered = true
    ∧ (recalled 2).findOrder 601 = some { order .called [] with calls := 2, recallTimer := some 0 }
    ∧ 2 ≤ (recalled 2).site.maxRecalls ∧ (recalled 2).site.maxRecalls < 3
    ∧ (recalled 3).book.records[(order .called []).record].state = .opened
    ∧ (recalled 3).book.records[(order .called []).record].show_ = some (order .called []).show_ := by decide

/-- Order 601 with its call waiting in the queue, behind an operator's entry. -/
def callWaits : State :=
  (ordered .ready []).updAnnounce fun a =>
    { a with queue := [entry, ⟨830, .call .recall, 1, [0], 2, some 3071, some 601⟩], state := .playing }

/-- Order 601 with its call on the deferred list. -/
def callDeferred : State :=
  ((ordered .ready []).updOrder 601 fun o => { o with deferredMark := true }).updOrders fun u =>
    { u with deferred := [⟨602, .recall⟩, ⟨601, .orderReady⟩] }

theorem witness_OrderIsPicked :
    (order .called []).state = .called ∧ (ordered .called []).findOrder (order .called []).number = some (order .called [])
    ∧ (order .called []).deferredMark = false ∧ (∀ e ∈ (ordered .called []).announce.queue, e.order ≠ some 601)
    ∧ (ordered .called []).book.records[(order .called []).record].state = .opened
    ∧ (ordered .called []).book.records[(order .called []).record].show_ = some (order .called []).show_
    ∧ (ordered .called []).takes 1 ∧ (601 : Half) ≠ 0 ∧ (601 : Half).toNat = (order .called []).number
    ∧ ((ordered .called []).updHanded 0 fun _ => ⟨true, false, some 0⟩).orders.handed[0] = ⟨true, false, some 0⟩
    ∧ ((ordered .called []).updHanded 0 fun _ => ⟨true, false, some 0⟩).orders.ready[0] = 601 :: [] := by decide

theorem witness_OrderIsPicked_call :
    (order .ready []).state = .ready ∧ callWaits.findOrder 601 = some (order .ready [])
    ∧ callWaits.announce.queue = [entry] ++ ⟨830, .call .recall, 1, [0], 2, some 3071, some 601⟩ :: [] ∧ entry.kind = .operator
    ∧ callDeferred.findOrder 601 = some { order .ready [] with deferredMark := true }
    ∧ callDeferred.orders.deferred.filter (·.order ≠ 601) = [⟨602, .recall⟩]
    ∧ (after (.pickup 1 601) callWaits).announce.queue = [entry] ∧ (after (.pickup 1 601) callWaits).notices = [.slotFree]
    ∧ (after (.pickup 1 601) callDeferred).orders.deferred = [⟨602, .recall⟩] := by decide

theorem witness_CancelTakenOrder :
    (ordered .taken [0, 2]).takes 1 ∧ (601 : Half) ≠ 0
    ∧ (ordered .taken [0, 2]).findOrder (601 : Half).toNat = some (order .taken [0, 2]) ∧ (order .taken [0, 2]).state = .taken
    ∧ (ordered .taken [0, 2]).book.records[(order .taken [0, 2]).record].state = .opened
    ∧ (ordered .taken [0, 2]).book.records[(order .taken [0, 2]).record].show_ = some (order .taken [0, 2]).show_ := by
  decide

theorem witness_CancelTakenOrder_others :
    (ordered .orphaned [0]).takes 1 ∧ (ordered .orphaned [0]).findOrder (601 : Half).toNat = some (order .orphaned [0])
    ∧ ((ordered .orphaned [0]).updRecord 2 fun c => { c with state := .closed }).book.records[2].state ≠ .opened
    ∧ callWaits.takes 1 ∧ callWaits.book.records[(order .ready []).record].state = .opened
    ∧ callWaits.book.records[(order .ready []).record].show_ = some (order .ready []).show_ ∧ callDeferred.takes 1
    ∧ (ordered .called []).findOrder (601 : Half).toNat = some (order .called []) := by decide

/-! A state that has every invariant and whose next step is a command that is taken. -/

/-- A READY show with the command GO waiting. -/
def going : State :=
  { shown .ready none with
    book := { (shown .ready none).book with records := vmod State.reset.book.records 2 fun _ => openRecord }
    pending := [.go 1 0 0 0] }

theorem witness_StepKeepsQueues :
    going.link.received.length ≤ 4 ∧ going.link.replies.length ≤ 8 ∧ going.link.reports.length ≤ 64
    ∧ going.announce.queue.length ≤ 32 ∧ going.orders.table.length ≤ 128
    ∧ (∀ st : Fin 4, going.kitchen.stations[st].queue.length ≤ 24)
    ∧ step going = .next (after (.go 1 0 0 0) { going with pending := [] }) := by
  refine ⟨?_, ?_, ?_, ?_, ?_, ?_, rfl⟩ <;> decide

/-- The crowded lot, its ready order about to be cancelled. -/
def cancelling : State := { crowdedLot with pending := [.cancelOrder 1 65535] }

theorem witness_StepKeepsQueues_orders :
    cancelling.queuesOk ∧ step cancelling = .next (after (.cancelOrder 1 65535) { cancelling with pending := [] }) := by
  refine ⟨?_, rfl⟩
  unfold State.queuesOk ordersRise
  decide

theorem witness_StepKeepsTheGate :
    (∀ i : Fin 8, going.lanes[i].barrierUp = going.lanes[i].pending.isSome)
    ∧ (∀ i : Fin 8, going.lanes[i].pending.isSome = true → going.lanes[i].mode = .entry)
    ∧ (going.cars.map (·.tag)).Pairwise (· < ·) ∧ (∀ c ∈ going.cars, 1 ≤ c.tag ∧ c.tag ≤ 65535)
    ∧ (∀ i : Fin 6, going.carCount i ≤ going.site.capacity.get i) ∧ (∀ i : Fin 6, going.site.capacity.get i ≤ 500)
    ∧ going.site.capacity.toList.sum ≤ 2048
    ∧ step going = .next (after (.go 1 0 0 0) { going with pending := [] }) := by
  refine ⟨?_, ?_, ?_, ?_, ?_, ?_, ?_, rfl⟩ <;> decide

theorem witness_StepKeepsTheGate_admissions :
    { crowdedLot with site := { crowdedLot.site with capacity := ⟨2, 0, 0, 0, 0, 1⟩ } }.carsOk ∧ crowdedLot.admissionsOk
    ∧ step { crowdedLot with pending := [.cancelAdmit 1 2] } = .next (after (.cancelAdmit 1 2) { crowdedLot with pending := [] }) := by
  refine ⟨?_, crowdedLot_admissions, rfl⟩
  unfold State.carsOk carsRise
  decide

theorem witness_StepKeepsChannels :
    (∀ i : Fin 6, going.channels[i] = Channel.reset) ∧ Channel.reset.ok
    ∧ step going = .next (after (.go 1 0 0 0) { going with pending := [] }) := by
  refine ⟨?_, ?_, rfl⟩
  · decide
  · unfold Channel.ok
    decide

theorem witness_StepKeepsShows : going.showsOk ∧ step going = .next (after (.go 1 0 0 0) { going with pending := [] }) := by
  refine ⟨?_, rfl⟩
  unfold State.showsOk State.strikeOk State.boundOk
  decide

end Sys2Proof.Tests
end

section
/-! The output lines of a screen, each characterised by the states in which it is on or open (R2, R48), and O15. -/

namespace Sys2Proof.Machine

@[simp] theorem Screen.lampOn_iff (c : Screen) :
    c.lampOn = true ↔ c.state ∈ [ScreenState.striking, .ready, .running, .holding] := by
  unfold Screen.lampOn
  cases c.state <;> simp

@[simp] theorem Screen.douserOpen_iff (c : Screen) : c.douserOpen = true ↔ c.state = .running :=
  beq_iff_eq

@[simp] theorem Screen.featureOpen_iff (c : Screen) :
    c.featureOpen = true ↔ c.state ∈ [ScreenState.ready, .running, .holding] := by
  unfold Screen.featureOpen
  cases c.state <;> simp

theorem State.lamp_of_powered {s : State} (hp : s.powered = true) (i : Fin 6) : s.lamp i = s.screens[i].lampOn := by
  simp [State.lamp, hp]

theorem State.douser_of_powered {s : State} (hp : s.powered = true) (i : Fin 6) :
    s.douser i = s.screens[i].douserOpen := by
  simp [State.douser, hp]

/-- Settles O15: main power leaves each line to its screen, whose lines are decided by its state. -/
theorem screenStateDrivesItsLines : Obligations.ScreenStateDrivesItsLines := by
  intro s i hp
  rw [State.lamp_of_powered hp, State.douser_of_powered hp]
  exact ⟨s.screens[i].lampOn_iff, s.screens[i].douserOpen_iff, s.screens[i].featureOpen_iff⟩

end Sys2Proof.Machine
end

section
/-! The passage tracker, one equation per kind of debounced change (R86, R87), and O39. -/

namespace Sys2Proof.Machine

/-- The first covering of both loops records the loop that was covered before it (R86). -/
@[simp] theorem track_both_from_a (d : Direction) :
    track true false true true d = (if d = .none then .fwd else d, none) := by
  cases d <;> rfl

@[simp] theorem track_both_from_b (d : Direction) :
    track false true true true d = (if d = .none then .rev else d, none) := by
  cases d <;> rfl

/-- With exactly one loop occupied after the change, neither what lay before it nor the direction matters (R86). -/
theorem track_of_ne (a b : Bool) {a' b' : Bool} (d : Direction) (h : a' ≠ b') : track a b a' b' d = (d, none) := by
  cases a' <;> cases b'
  · exact absurd rfl h
  · rfl
  · rfl
  · exact absurd rfl h

/-- The loop that clears last and the direction decide between a passage and a balk (R87). -/
@[simp] theorem track_clear_from_b (d : Direction) :
    track false true false false d = (.none, if d = .fwd then some .forward else none) := by
  cases d <;> rfl

@[simp] theorem track_clear_from_a (d : Direction) :
    track true false false false d = (.none, if d = .rev then some .reverse else none) := by
  cases d <;> rfl

/-- Settles O39: the covering of both loops, the change that leaves one covered, and the clearing of both. -/
theorem passageTracker : Obligations.PassageTracker :=
  ⟨track_both_from_a, track_both_from_b, fun a b _ _ d h => track_of_ne a b d h, track_clear_from_b, track_clear_from_a⟩

end Sys2Proof.Machine
end

section
/-! The CHECK of a frame (R183), one equation per step of its computation and for the receiver's test, and O5. -/

namespace Sys2Proof.Machine

@[simp] theorem half_extractLsb' (x : Half) : half (x.extractLsb' 8 8) (x.extractLsb' 0 8) = x :=
  BitVec.extractLsb'_append_extractLsb' (w := 8) (len := 8)

/-- The two bytes of a 16-bit field decide its value. -/
@[simp] theorem putHalf_inj {x y : Half} : putHalf x = putHalf y ↔ x = y := by
  refine ⟨fun h => ?_, congrArg putHalf⟩
  have ⟨hhi, hlo⟩ : x.extractLsb' 8 8 = y.extractLsb' 8 8 ∧ x.extractLsb' 0 8 = y.extractLsb' 0 8 := by
    simpa [putHalf] using h
  rw [← half_extractLsb' x, hhi, hlo, half_extractLsb']

@[simp] theorem crc_nil : crc [] = 0xFFFF := rfl

@[simp] theorem crc_concat (bytes : List Byte) (b : Byte) : crc (bytes ++ [b]) = crcByte (crc bytes) b :=
  List.foldl_concat ..

/-- A byte's exclusive-or into the high eight bits, then eight times one shift (R183). -/
theorem crcByte_eq_foldl_crcBit (r : Half) (b : Byte) :
    crcByte r b = (List.range 8).foldl (fun x _ => crcBit x) (r ^^^ (b.setWidth 16 <<< 8)) := rfl

/-- The check value that R183 gives, computed one byte and one shift at a time. -/
theorem crc_check_value : crc [0x31, 0x32, 0x33, 0x34, 0x35, 0x36, 0x37, 0x38, 0x39] = 0x29B1 := by
  simp [crc, crcByte, crcBit]

/-- The receiver compares the last two bytes with its own computation over all bytes before them (R183). -/
@[simp] theorem checkOk_append_putHalf (bytes : List Byte) (x : Half) :
    checkOk (bytes ++ putHalf x) = true ↔ x = crc bytes := by
  have hlen : (bytes ++ putHalf x).length - 2 = bytes.length := by simp [putHalf]
  rw [checkOk, hlen, List.take_left, List.drop_left, beq_iff_eq, putHalf_inj, eq_comm]

/-- Settles O5: the start value, a further byte, the check value, the receiver's test and the layout of a frame. -/
theorem checkIsTheCrc : Obligations.CheckIsTheCrc := by
  refine ⟨crc_nil, fun bytes b => ?_, crc_check_value, checkOk_append_putHalf, fun kind tag body => ⟨_, rfl, rfl⟩⟩
  rw [crc_concat, crcByte_eq_foldl_crcBit]
  rfl

end Sys2Proof.Machine
end

section
/-! What every shared operation keeps of the part's invariants, said once for each operation (O56 to O58): the places of the
queues, the ranges of the channels, the barriers and the car table. -/

namespace Sys2Proof.Machine

/-! ## A unit of a bank, by its number -/

theorem vmod_at {α : Type} {n : Nat} (v : Vector α n) (i : Fin n) (f : α → α) : (vmod v i f)[i] = f v[i] := vmod_self v i f

theorem vmod_at_ne {α : Type} {n : Nat} (v : Vector α n) {i j : Fin n} (f : α → α) (h : j ≠ i) : (vmod v i f)[j] = v[j] :=
  vmod_ne v i j f h

/-! ## The link's queues -/

/-- Bounds on the link's queues. -/
structure Link.Places where
  frames : Nat
  replies : Nat
  reports : Nat := Config.reportQueue

/-- The link's queues keep within these places; reports join the tail up to the queue's own bound (R191). -/
def Link.within (k : Link.Places) (l : Link) : Prop :=
  l.received.length ≤ k.frames ∧ l.replies.length ≤ k.replies ∧ l.reports.length ≤ max Config.reportQueue k.reports

namespace Link

variable {k : Places} {l : Link}

theorem within_startIfIdle (h : l.within k) : l.startIfIdle.within k := by
  obtain ⟨hrx, hrep, hrpt⟩ := h
  unfold startIfIdle
  split
  · exact ⟨hrx, hrep, hrpt⟩
  · split
    · next e => exact ⟨hrx, by rw [e] at hrep; exact Nat.le_of_succ_le hrep, hrpt⟩
    · split
      · next e => exact ⟨hrx, hrep, by rw [e] at hrpt; exact Nat.le_of_succ_le hrpt⟩
      · exact ⟨hrx, hrep, hrpt⟩

theorem within_postReport (h : l.within k) (r : Report) : (l.postReport r).within k := by
  obtain ⟨hrx, hrep, hrpt⟩ := h
  refine within_startIfIdle ?_
  unfold queueReport
  split
  · next hlt => exact ⟨hrx, hrep, by rw [List.length_append]; exact hlt.trans_le (le_max_left _ _)⟩
  · exact ⟨hrx, hrep, hrpt⟩

theorem within_postReply (h : l.within k) (r : Reply) : (l.postReply r).within { k with replies := k.replies + 1 } := by
  obtain ⟨hrx, hrep, hrpt⟩ := h
  exact within_startIfIdle ⟨hrx, by rw [List.length_append]; exact Nat.succ_le_succ hrep, hrpt⟩

end Link

/-! ## The relation -/

/-- Every invariant that each operation keeps by itself, on its own block. -/
structure Keeps (s t : State) : Prop where
  link : ∀ k, s.link.within k → t.link.within k
  queues : s.queuesOk → t.queuesOk
  channels : s.channelsOk → t.channelsOk
  barriers : s.barriersOk → t.barriersOk
  cars : s.carsOk → t.carsOk

namespace Keeps

theorem refl (s : State) : Keeps s s := ⟨fun _ => id, id, id, id, id⟩

theorem trans {a b c : State} (h : Keeps a b) (k : Keeps b c) : Keeps a c :=
  ⟨fun n => k.link n ∘ h.link n, k.queues ∘ h.queues, k.channels ∘ h.channels, k.barriers ∘ h.barriers, k.cars ∘ h.cars⟩

theorem foldl {α : Type} (f : State → α → State) (h : ∀ s x, Keeps s (f s x)) (xs : List α) (s : State) :
    Keeps s (xs.foldl f s) :=
  foldl_related Keeps refl trans f h xs s

end Keeps

/-! ## What the operations of most blocks leave alone -/

/-- Main power, the strike queue, every screen's state and binding, and every record's state and screen are the same. -/
structure SameShows (s t : State) : Prop where
  powered : t.powered = s.powered
  strikeQueue : t.strikeQueue = s.strikeQueue
  screens : ∀ i : Fin 6, t.screens[i].state = s.screens[i].state ∧ t.screens[i].bound = s.screens[i].bound
  records : ∀ r : Fin 16, t.book.records[r].state = s.book.records[r].state ∧ t.book.records[r].screen = s.book.records[r].screen

theorem SameShows.refl (s : State) : SameShows s s := ⟨rfl, rfl, fun _ => ⟨rfl, rfl⟩, fun _ => ⟨rfl, rfl⟩⟩

theorem SameShows.of {s t : State} (hp : t.powered = s.powered := by rfl) (hq : t.strikeQueue = s.strikeQueue := by rfl)
    (hs : t.screens = s.screens := by rfl) (hb : t.book.records = s.book.records := by rfl) : SameShows s t :=
  ⟨hp, hq, fun _ => by rw [hs]; exact ⟨rfl, rfl⟩, fun _ => by rw [hb]; exact ⟨rfl, rfl⟩⟩

theorem SameShows.trans {a b c : State} (h : SameShows a b) (k : SameShows b c) : SameShows a c :=
  ⟨k.powered.trans h.powered, k.strikeQueue.trans h.strikeQueue,
    fun i => ⟨(k.screens i).1.trans (h.screens i).1, (k.screens i).2.trans (h.screens i).2⟩,
    fun r => ⟨(k.records r).1.trans (h.records r).1, (k.records r).2.trans (h.records r).2⟩⟩

/-- What ties a car record to a pending admission (R93). -/
def Car.key (c : Car) : Nat × Fin 6 × Fin 16 × CarState × Fin 8 := (c.tag, c.screen, c.record, c.state, c.lane)

/-- Every lane's pending admission and every car's key are the same. -/
structure SameGate (s t : State) : Prop where
  pending : ∀ l : Fin 8, t.lanes[l].pending = s.lanes[l].pending
  keys : t.cars.map Car.key = s.cars.map Car.key

theorem SameGate.refl (s : State) : SameGate s s := ⟨fun _ => rfl, rfl⟩

theorem SameGate.trans {a b c : State} (h : SameGate a b) (k : SameGate b c) : SameGate a c :=
  ⟨fun l => (k.pending l).trans (h.pending l), k.keys.trans h.keys⟩

/-- An operation that keeps the invariants of its own blocks and touches neither the shows nor the gate. -/
structure Quiet (s t : State) : Prop extends Keeps s t where
  shows : SameShows s t
  gate : SameGate s t

namespace Quiet

theorem refl (s : State) : Quiet s s := ⟨.refl s, .refl s, .refl s⟩

theorem trans {a b c : State} (h : Quiet a b) (k : Quiet b c) : Quiet a c :=
  ⟨h.toKeeps.trans k.toKeeps, h.shows.trans k.shows, h.gate.trans k.gate⟩

theorem foldl {α : Type} (f : State → α → State) (h : ∀ s x, Quiet s (f s x)) (xs : List α) (s : State) :
    Quiet s (xs.foldl f s) :=
  foldl_related Quiet refl trans f h xs s

/-- An operation that leaves the blocks of the shows and of the gate as they are. -/
theorem of {s t : State} (h : Keeps s t) (hp : t.powered = s.powered := by rfl)
    (hq : t.strikeQueue = s.strikeQueue := by rfl) (hs : t.screens = s.screens := by rfl)
    (hb : t.book.records = s.book.records := by rfl) (hl : t.lanes = s.lanes := by rfl)
    (hc : t.cars = s.cars := by rfl) : Quiet s t :=
  ⟨h, .of hp hq hs hb, ⟨fun _ => by rw [hl], by rw [hc]⟩⟩

end Quiet

/-! ## Operations on blocks that no invariant reads -/

namespace State

variable (s : State)

theorem post_quiet (subject : Nat) (r : ReportRecord) : Quiet s (s.post subject r) :=
  .of ⟨fun _ h => Link.within_postReport h _, id, id, id, id⟩

theorem postAll_quiet (rs : List (Nat × ReportRecord)) : Quiet s (s.postAll rs) :=
  Quiet.foldl _ (fun s (r : Nat × ReportRecord) => s.post_quiet r.1 r.2) _ _

theorem hand_quiet (n : Notice) : Quiet s (s.hand n) :=
  .of ⟨fun _ => id, id, id, id, id⟩
theorem takeNotice_quiet (n : Notice) : Quiet s (s.takeNotice n) :=
  .of ⟨fun _ => id, id, id, id, id⟩
theorem sendPlay_quiet (w : PlayWord) : Quiet s (s.sendPlay w) :=
  .of ⟨fun _ => id, id, id, id, id⟩
theorem updScreen_keeps (i : Fin 6) (f : Screen → Screen) : Keeps s (s.updScreen i f) := ⟨fun _ => id, id, id, id, id⟩
theorem updCue_quiet (i : Fin 6) (f : CueUnit → CueUnit) : Quiet s (s.updCue i f) :=
  .of ⟨fun _ => id, id, id, id, id⟩
/-- A change of a record that leaves its state and screen touches no show (R15). -/
theorem updRecord_quiet (r : Fin 16) (f : CountRecord → CountRecord) (hs : ∀ c, (f c).state = c.state := by intro _; rfl)
    (hi : ∀ c, (f c).screen = c.screen := by intro _; rfl) : Quiet s (s.updRecord r f) := by
  refine ⟨⟨fun _ => id, id, id, id, id⟩, ⟨rfl, rfl, fun _ => ⟨rfl, rfl⟩, fun q => ?_⟩, ⟨fun _ => rfl, rfl⟩⟩
  simp only [updRecord_book, Fin.getElem_fin, vmod_get]
  split
  · next h => subst h; exact ⟨hs _, hi _⟩
  · exact ⟨rfl, rfl⟩

theorem updItem_quiet (i : Fin 128) (f : Item → Item) : Quiet s (s.updItem i f) :=
  .of ⟨fun _ => id, id, id, id, id⟩
theorem updHanded_quiet (w : Fin 2) (f : Button → Button) : Quiet s (s.updHanded w f) :=
  .of ⟨fun _ => id, id, id, id, id⟩

/-- The book is read by none of these invariants. -/
theorem book_keeps (b : CountBook) : Keeps s { s with book := b } := ⟨fun _ => id, id, id, id, id⟩

/-- The ready lists, the deferred list and the buttons are read by none. -/
theorem updOrders_quiet (f : OrderUnit → OrderUnit) (ht : (f s.orders).table = s.orders.table := by rfl)
    (hc : (f s.orders).counter = s.orders.counter := by rfl) : Quiet s (s.updOrders f) := by
  refine .of ⟨fun _ => id, fun h => ?_, id, id, id⟩
  unfold queuesOk at h ⊢
  simp only [updOrders_announce, updOrders_kitchen, updOrders_orders, ht, hc]
  exact h

/-! ## Operations on a block of its own -/

theorem updAnnounce_quiet (f : AnnouncePath → AnnouncePath)
    (hf : s.announce.queue.length ≤ 32 → (f s.announce).queue.length ≤ 32 := by exact id) : Quiet s (s.updAnnounce f) :=
  .of ⟨fun _ => id, fun ⟨hq, rest⟩ => ⟨hf hq, rest⟩, id, id, id⟩

theorem updChannel_quiet (i : Fin 6) (f : Channel → Channel) (hf : s.channels[i].ok → (f s.channels[i]).ok) :
    Quiet s (s.updChannel i f) := by
  refine .of ⟨fun _ => id, id, fun h j => ?_, id, id⟩
  simp only [updChannel_channels, Fin.getElem_fin, vmod_get]
  split
  · exact hf (h i)
  · exact h j

theorem updLane_keeps (i : Fin 8) (f : Lane → Lane) (hf : s.lanes[i].barrierOk → (f s.lanes[i]).barrierOk) :
    Keeps s (s.updLane i f) := by
  refine ⟨fun _ => id, id, id, fun h j => ?_, id⟩
  simp only [updLane_lanes, Fin.getElem_fin, vmod_get]
  split
  · exact hf (h i)
  · exact h j

theorem updStation_quiet (st : Fin 4) (f : Station → Station)
    (hf : s.kitchen.stations[st].queue.length ≤ 24 → (f s.kitchen.stations[st]).queue.length ≤ 24) :
    Quiet s (s.updStation st f) := by
  refine .of ⟨fun _ => id, fun ⟨hq, hl, hst, rest⟩ => ⟨hq, hl, fun j => ?_, rest⟩, id, id, id⟩
  simp only [updStation_kitchen, Fin.getElem_fin, vmod_get]
  split
  · exact hf (hst st)
  · exact hst j

end State

/-! ## The car table -/

theorem carsRise_map {cars : List Car} (f : Car → Car) (hf : ∀ c, (f c).tag = c.tag) (h : carsRise cars) :
    carsRise (cars.map f) := by
  obtain ⟨hp, hr⟩ := h
  refine ⟨by rwa [List.map_map, show (·.tag) ∘ f = Car.tag from funext hf], fun c hc => ?_⟩
  obtain ⟨d, hd, rfl⟩ := List.mem_map.1 hc
  rw [hf]
  exact hr d hd

theorem carsRise_filter {cars : List Car} (p : Car → Bool) (h : carsRise cars) : carsRise (cars.filter p) :=
  ⟨h.1.sublist (List.filter_sublist.map _), fun c hc => h.2 c (List.mem_of_mem_filter hc)⟩

namespace State

variable (s : State)

/-- A change of cars that keeps tags in order and raises no screen's count. -/
theorem cars_keeps {t : State} (hl : ∀ k, s.link.within k → t.link.within k) (hq : s.queuesOk → t.queuesOk)
    (hch : t.channels = s.channels) (hb : s.barriersOk → t.barriersOk) (hs : t.site = s.site)
    (hr : carsRise s.cars → carsRise t.cars) (hn : ∀ i, t.carCount i ≤ s.carCount i) : Keeps s t := by
  refine ⟨hl, hq, fun h => ?_, hb, fun ⟨hrise, hcount, hcap, hsum⟩ => ⟨hr hrise, fun i => ?_, ?_, ?_⟩⟩
  · unfold channelsOk at h ⊢
    rwa [hch]
  · rw [hs]; exact (hn i).trans (hcount i)
  · rwa [hs]
  · rwa [hs]

theorem updCar_keeps (tag : Nat) (f : Car → Car) (ht : ∀ c, (f c).tag = c.tag := by intro _; rfl)
    (hs : ∀ c, (f c).screen = c.screen := by intro _; rfl) : Keeps s (s.updCar tag f) := by
  refine s.cars_keeps (fun _ => id) id rfl id rfl (carsRise_map _ fun c => ?_) fun i => le_of_eq ?_
  · split <;> simp only [ht]
  · rw [carCount, updCar_cars, List.countP_map, carCount]
    congr 1
    funext c
    simp only [Function.comp_apply]
    split <;> simp only [hs]

/-- A change of a car record that leaves its key touches no admission (R93). -/
theorem updCar_quiet (tag : Nat) (f : Car → Car) (hf : ∀ c, (f c).key = c.key := by intro _; rfl) :
    Quiet s (s.updCar tag f) := by
  refine ⟨s.updCar_keeps tag f (fun c => congrArg (·.1) (hf c)) fun c => congrArg (·.2.1) (hf c), .of, fun _ => rfl, ?_⟩
  rw [updCar_cars, List.map_map]
  refine congrArg (s.cars.map ·) (funext fun c => ?_)
  simp only [Function.comp_apply]
  split <;> simp only [hf]

theorem removeCar_keeps (tag : Nat) : Keeps s (s.removeCar tag) :=
  s.cars_keeps (fun _ => id) id rfl id rfl (carsRise_filter _) fun _ => List.filter_sublist.countP_le

end State

/-! ## The order table -/

theorem ordersRise_map {orders : List Order} (f : Order → Order) (hf : ∀ o, (f o).number = o.number) (h : ordersRise orders) :
    ordersRise (orders.map f) := by
  obtain ⟨hp, hr⟩ := h
  refine ⟨by rwa [List.map_map, show (·.number) ∘ f = Order.number from funext hf], fun o ho => ?_⟩
  obtain ⟨q, hq, rfl⟩ := List.mem_map.1 ho
  rw [hf]
  exact hr q hq

theorem ordersRise_filter {orders : List Order} (p : Order → Bool) (h : ordersRise orders) : ordersRise (orders.filter p) :=
  ⟨h.1.sublist (List.filter_sublist.map _), fun o ho => h.2 o (List.mem_of_mem_filter ho)⟩

namespace State

variable (s : State)

theorem updOrder_quiet (number : Nat) (f : Order → Order) (hf : ∀ o, (f o).number = o.number := by intro _; rfl) :
    Quiet s (s.updOrder number f) := by
  refine .of ⟨fun _ => id, fun ⟨hq, hl, hst, hr, hc⟩ => ⟨hq, ?_, hst, ordersRise_map _ (fun o => ?_) hr, hc⟩, id, id, id⟩
  · rw [updOrder_orders]; simpa using hl
  · split <;> simp only [hf]

theorem removeOrder_quiet (number : Nat) : Quiet s (s.removeOrder number) :=
  .of ⟨fun _ => id, fun ⟨hq, hl, hst, hr, hc⟩ =>
    ⟨hq, (List.length_filter_le _ _).trans hl, hst, ordersRise_filter _ hr, hc⟩, id, id, id⟩

end State

end Sys2Proof.Machine
end

section
/-! What the announce path, the cue unit, the order unit and the kitchen keep of the invariants. -/

namespace Sys2Proof.Machine

/-! ## Channels -/

/-- Bringing the at-level indication up to date makes it exact, whatever it was. -/
theorem Channel.refresh_ok {c d : Channel} (h : c.ok) (hd : d = { c with mode := d.mode, feedOpen := d.feedOpen }) :
    d.refresh.ok := by
  obtain ⟨hdelay, htrim, hlevel, hlo, hhi, hgain, hin, hw, hring, hduck, -⟩ := h
  rw [hd]
  exact ⟨hdelay, htrim, hlevel, hlo, hhi, hgain, hin, hw, hring, hduck, rfl⟩

namespace State

variable (s : State)

theorem putChannel_quiet (i : Fin 6) (c : Channel) (h : s.channels[i].ok → c.ok) : Quiet s (s.putChannel i c) := by
  unfold putChannel
  dsimp only
  split
  · exact (s.updChannel_quiet i _ h).trans (hand_quiet _ _)
  · exact s.updChannel_quiet i _ h

theorem setMode_quiet (m : DuckMode) (i : Fin 6) : Quiet s (s.setMode m i) :=
  s.putChannel_quiet i _ fun h => Channel.refresh_ok h rfl

theorem setFeed_quiet (isOpen : Bool) (i : Fin 6) : Quiet s (s.setFeed isOpen i) :=
  s.updChannel_quiet i _ id

/-! ## The announce path -/

theorem enterPlaying_quiet (r : OnAir) : Quiet s (s.enterPlaying r) := by
  unfold enterPlaying
  exact (((s.updAnnounce_quiet _).trans (Quiet.foldl _ (fun s i => s.setFeed_quiet true i) _ _)).trans
    (sendPlay_quiet _ _)).trans (post_quiet _ _ _)

theorem testPlaying_quiet (r : OnAir) : Quiet s (s.testPlaying r) := by
  unfold testPlaying
  split
  · exact s.enterPlaying_quiet r
  · exact .refl s

/-- A grant takes an entry out of the queue or leaves its remainder in its place (R64). -/
theorem length_queueAfterGrant (queue : List Entry) (place : Nat) (e : Entry) (rest : List (Fin 6)) :
    (queueAfterGrant queue place e rest).length ≤ queue.length := by
  unfold queueAfterGrant
  split
  · exact List.length_eraseIdx_le _ _
  · exact (List.length_set ..).le

theorem grantEntry_quiet (place : Nat) (e : Entry) : Quiet s (s.grantEntry place e) := by
  have h := ((s.updAnnounce_quiet (fun a => { a with
    queue := queueAfterGrant a.queue place e (e.targets.filter fun i => !((s.policies i).announce.takes e.priority))
    onAir := some (e.granted (s.eligible e)), state := .ducking })
      ((length_queueAfterGrant _ _ _ _).trans ·)).trans
      (Quiet.foldl _ (fun s i => s.setMode_quiet .level i) (s.eligible e) _)).trans
        (testPlaying_quiet _ (e.granted (s.eligible e)))
  unfold grantEntry
  dsimp only
  split
  · exact h.trans (hand_quiet _ _)
  · exact h

theorem grant_quiet : Quiet s s.grant := by
  unfold grant
  split
  · split
    · exact .refl s
    · exact s.grantEntry_quiet _ _
  all_goals exact .refl s

/-- An enqueue finds a place or changes nothing (R60). -/
theorem enqueue_quiet (k : EntryKind) (p : Nat) (ts : List (Fin 6)) (clip : Nat) (tag order : Option Nat) :
    Quiet s (s.enqueue k p ts clip tag order).2 := by
  unfold enqueue
  split
  · next h => exact (s.updAnnounce_quiet _ fun _ => by rw [List.length_append]; exact h).trans (grant_quiet _)
  · exact .refl s

theorem vacate_quiet (r : OnAir) : Quiet s (s.vacate r) :=
  ((s.updAnnounce_quiet _).trans (Quiet.foldl _ (fun s i =>
    (s.setMode_quiet .unity i).trans (setFeed_quiet _ false i)) r.granted _)).trans (grant_quiet _)

theorem handCallPlayed_quiet (r : OnAir) (o : PlayOutcome) : Quiet s (s.handCallPlayed r o) := by
  unfold handCallPlayed
  split
  · exact s.hand_quiet _
  · exact .refl s

theorem endPlay_quiet (r : OnAir) (o : PlayOutcome) : Quiet s (s.endPlay r o) :=
  ((s.post_quiet _ _).trans (handCallPlayed_quiet _ r o)).trans (vacate_quiet _ r)

theorem cancelOnAir_quiet (r : OnAir) : Quiet s (s.cancelOnAir r) := by
  have h : Quiet s (if s.announce.state = .playing then s.sendPlay .stop else s) := by
    split
    · exact s.sendPlay_quiet _
    · exact .refl s
  exact (h.trans (post_quiet _ _ _)).trans (vacate_quiet _ r)

theorem withdraw_quiet (n : Nat) : Quiet s (s.withdraw n) := by
  unfold withdraw
  split
  · exact (s.updAnnounce_quiet _ (List.length_eraseP_le.trans ·)).trans (hand_quiet _ _)
  · exact .refl s

/-! ## Cues -/

theorem reportCue_quiet (i : Fin 6) (n : Nat) (e : CueEntry) (l : Bool) (k : Nat) : Quiet s (s.reportCue i n e l k) := by
  unfold reportCue
  split
  · exact s.post_quiet _ _
  · exact .refl s

theorem fire_quiet (i : Fin 6) (n : Nat) (e : CueEntry) : Quiet s (s.fire i n e) := by
  unfold fire
  split
  · next clip priority _ =>
    have h := s.enqueue_quiet .showNotice priority [i] clip none none
    split
    · next heq => rw [heq] at h; exact h.trans (reportCue_quiet _ _ _ _ _ _)
    · exact (s.post_quiet _ _).trans (reportCue_quiet _ _ _ _ _ _)
  · exact (s.updCue_quiet i _).trans (reportCue_quiet _ _ _ _ _ _)

theorem fireAt_quiet (i : Fin 6) (p : Position) : Quiet s (s.fireAt i p) :=
  Quiet.foldl _ (fun s (x : CueEntry × Nat) => s.fire_quiet i x.2 x.1) _ _

/-! ## Orders -/

theorem count_quiet (r : Fin 16) (n : Nat) (f : Counts → Counts) : Quiet s (s.count r n f) := by
  unfold count
  split
  · exact s.updRecord_quiet _ _
  · exact .refl s

theorem stopRecall_quiet (o : Order) : Quiet s (s.stopRecall o) := s.updOrder_quiet _ _

theorem leaveReady_quiet (o : Order) : Quiet s (s.leaveReady o) := s.updOrders_quiet _

theorem closeOrderOf_quiet (o : Order) : Quiet s (s.closeOrderOf o) := s.updCar_quiet _ _

theorem dropCall_quiet (o : Order) : Quiet s (s.dropCall o) := by
  unfold dropCall
  split
  · exact (s.updOrders_quiet _).trans (updOrder_quiet _ _ _)
  · exact s.withdraw_quiet _

/-- Steps 1 to 3 of R174: the timer stops, the ready list and the call are left. -/
theorem leaveWindow_quiet (o : Order) : Quiet s (((s.stopRecall o).leaveReady o).dropCall o) :=
  ((s.stopRecall_quiet o).trans (leaveReady_quiet _ o)).trans (dropCall_quiet _ o)

theorem enqueueCall_quiet (o : Order) (k : CallKind) : Quiet s (s.enqueueCall o k).2 := s.enqueue_quiet _ _ _ _ _ _

theorem placeCall_quiet (o : Order) (k : CallKind) : Quiet s (s.placeCall o k).2 := by
  have h := s.enqueueCall_quiet o k
  unfold placeCall
  split
  · next heq => rw [heq] at h; exact h.trans (updOrder_quiet _ _ _)
  · next heq =>
    rw [heq] at h
    dsimp only at h ⊢
    exact (h.trans (updOrder_quiet _ _ _)).trans (updOrders_quiet _ _)

theorem pickOrder_quiet (o : Order) : Quiet s (s.pickOrder o) := by
  unfold pickOrder
  dsimp only
  exact ((((s.leaveWindow_quiet o).trans (count_quiet _ _ _ _)).trans (closeOrderOf_quiet _ o)).trans
    (post_quiet _ _ _)).trans (removeOrder_quiet _ _)

theorem expireOrder_quiet (o : Order) : Quiet s (s.expireOrder o) := by
  unfold expireOrder
  dsimp only
  exact (((s.count_quiet _ _ _).trans (closeOrderOf_quiet _ o)).trans (post_quiet _ _ _)).trans (removeOrder_quiet _ _)

theorem releaseOrder_quiet (o : Order) : Quiet s (s.releaseOrder o) := by
  unfold releaseOrder
  split
  · exact ((s.updOrder_quiet _ _).trans (closeOrderOf_quiet _ o)).trans (post_quiet _ _ _)
  · exact (s.leaveWindow_quiet o).trans (expireOrder_quiet _ o)
  · exact (s.leaveWindow_quiet o).trans (expireOrder_quiet _ o)
  · exact .refl s

theorem releaseOrders_quiet (tag : Nat) : Quiet s (s.releaseOrders tag) :=
  Quiet.foldl _ (fun s o => s.releaseOrder_quiet o) _ _

theorem releaseCar_keeps (tag : Nat) : Keeps s (s.releaseCar tag) :=
  (s.releaseOrders_quiet tag).toKeeps.trans (removeCar_keeps _ tag)

theorem makeReady_quiet (o : Order) : Quiet s (s.makeReady o) := by
  unfold makeReady
  exact (((s.updOrder_quiet _ _).trans (updOrders_quiet _ _)).trans
    (placeCall_quiet _ o .orderReady)).trans (post_quiet _ _ _)

theorem ticketDone_quiet (o : Order) (st : Fin 4) : Quiet s (s.ticketDone o st) := by
  unfold ticketDone
  dsimp only
  split
  · split
    · exact (s.post_quiet _ _).trans (removeOrder_quiet _ _)
    · exact s.makeReady_quiet o
    · exact s.updOrder_quiet _ _
    · exact s.updOrder_quiet _ _
  · exact s.updOrder_quiet _ _

theorem placeDeferred_quiet : Quiet s s.placeDeferred := by
  unfold placeDeferred
  split
  · exact .refl s
  · next d _ _ =>
    split
    · exact .refl s
    · next o _ =>
      split
      · exact .refl s
      · next heq =>
        have h := s.enqueueCall_quiet o d.kind
        rw [heq] at h
        exact (h.trans (updOrders_quiet _ _)).trans (updOrder_quiet _ _ _)

theorem handOver_quiet (w : Fin 2) : Quiet s (s.handOver w) := by
  unfold handOver
  split
  · exact .refl s
  · split
    · exact .refl s
    · exact s.pickOrder_quiet _

/-! ## Kitchen -/

theorem takeItem_quiet (lines : List OrderLine) (n : Nat) (i : Fin 128) : Quiet s (s.takeItem lines n i) := by
  unfold takeItem
  split
  · exact .refl s
  · exact (s.updItem_quiet _ _).trans (postAll_quiet _ _)

theorem takeStock_quiet (lines : List OrderLine) (n : Nat) : Quiet s (s.takeStock lines n) :=
  Quiet.foldl _ (fun s i => s.takeItem_quiet lines n i) _ _

theorem length_promote (queue : List Ticket) (clock : Word) : (promote queue clock).length = queue.length := by
  cases queue <;> rfl

theorem length_withdrawTicket (queue : List Ticket) (n : Nat) (clock : Word) :
    (withdrawTicket queue n clock).length ≤ queue.length := by
  cases queue with
  | nil => exact Nat.le_refl 0
  | cons t rest =>
    have h := List.length_filter_le (fun x : Ticket => x.order != n) rest
    simp only [withdrawTicket]
    split
    · rw [length_promote]; exact h.trans (Nat.le_succ _)
    · exact Nat.succ_le_succ h

theorem withdrawTickets_quiet (n : Nat) : Quiet s (s.withdrawTickets n) :=
  Quiet.foldl _ (fun t st => t.updStation_quiet st _ ((length_withdrawTicket _ _ _).trans ·)) _ _

theorem bump_quiet (st : Fin 4) : Quiet s (s.bump st) := by
  unfold bump
  split
  · exact .refl s
  · next t rest h =>
    refine (s.updStation_quiet st _ fun hq => ?_).trans (hand_quiet _ _)
    rw [length_promote]
    rw [h] at hq
    exact (Nat.le_succ _).trans hq

theorem detachOrder_quiet (o : Order) : Quiet s (s.detachOrder o) := by
  unfold detachOrder
  split
  · exact s.withdrawTickets_quiet _
  · exact s.withdrawTickets_quiet _
  · exact s.leaveWindow_quiet o
  · exact s.leaveWindow_quiet o

theorem cancelOrder_quiet (o : Order) : Quiet s (s.cancelOrder o) := by
  have h := (s.detachOrder_quiet o).trans (count_quiet _ o.record o.show_ Counts.addCancelled)
  have hc : Quiet s (if o.state = .orphaned then (s.detachOrder o).count o.record o.show_ Counts.addCancelled
      else ((s.detachOrder o).count o.record o.show_ Counts.addCancelled).closeOrderOf o) := by
    split
    · exact h
    · exact h.trans (closeOrderOf_quiet _ o)
  unfold cancelOrder
  exact (hc.trans (post_quiet _ _ _)).trans (removeOrder_quiet _ _)

end State

end Sys2Proof.Machine
end

section
/-! Pending admissions and their cars (R93), and shows with their records (R13, R15): what an event keeps that touches more than
one block at once. -/

namespace Sys2Proof.Machine

/-! ## Pending admissions -/

/-- A car record in PENDING holds this admission of this lane (R93). -/
def State.holds (s : State) (l : Fin 8) (p : Admission) : Prop :=
  ∃ c ∈ s.cars, c.tag = p.tag ∧ c.screen = p.screen ∧ c.record = p.record ∧ c.state = .pending ∧ c.lane = l

/-- Lanes and PENDING cars name the same admissions. -/
theorem State.admissionsOk_iff (s : State) :
    s.admissionsOk ↔ ∀ l p, s.lanes[l].pending = some p ↔ s.holds l p := by
  refine ⟨fun ⟨hl, hc⟩ l p => ⟨hl l p, ?_⟩, fun h => ⟨fun l p => (h l p).1, fun c hc hp => ?_⟩⟩
  · rintro ⟨c, hm, ht, hs, hr, hp, rfl⟩
    rw [hc c hm hp, ht, hs, hr]
  · exact (h c.lane _).2 ⟨c, hc, rfl, rfl, rfl, hp, rfl⟩

theorem State.holds_iff_key (s : State) (l : Fin 8) (p : Admission) :
    s.holds l p ↔ (p.tag, p.screen, p.record, CarState.pending, l) ∈ s.cars.map Car.key := by
  simp only [holds, List.mem_map, Car.key, Prod.mk.injEq]

theorem SameGate.holds_iff {s t : State} (h : SameGate s t) (l : Fin 8) (p : Admission) : t.holds l p ↔ s.holds l p := by
  rw [State.holds_iff_key, State.holds_iff_key, h.keys]

theorem SameGate.admissions {s t : State} (h : SameGate s t) (hs : s.admissionsOk) : t.admissionsOk := by
  rw [State.admissionsOk_iff] at hs ⊢
  exact fun l p => by rw [h.pending, h.holds_iff, hs]

theorem carsRise.eq_of_tag {cars : List Car} (h : carsRise cars) {c d : Car} (hc : c ∈ cars) (hd : d ∈ cars)
    (ht : c.tag = d.tag) : c = d :=
  List.inj_on_of_nodup_map (h.1.imp Nat.ne_of_lt) hc hd ht

/-- With distinct tags two admissions with one tag are of one lane. -/
theorem State.holds_unique {s : State} (hr : carsRise s.cars) {l m : Fin 8} {p q : Admission} (hp : s.holds l p)
    (hq : s.holds m q) (h : q.tag = p.tag) : m = l := by
  obtain ⟨c, hc, hct, -, -, -, rfl⟩ := hp
  obtain ⟨d, hd, hdt, -, -, -, rfl⟩ := hq
  rw [hr.eq_of_tag hd hc (hdt.trans (h.trans hct.symm))]

/-- The end of lane `i`'s admission `p`: its car is PENDING no more, and every other admission stays. -/
theorem State.admissions_end {s t : State} {i : Fin 8} {p : Admission} (hr : carsRise s.cars) (hs : s.admissionsOk)
    (hi : s.lanes[i].pending = some p) (hl : ∀ l : Fin 8, t.lanes[l].pending = if l = i then none else s.lanes[l].pending)
    (hc : ∀ l q, t.holds l q ↔ s.holds l q ∧ q.tag ≠ p.tag) : t.admissionsOk := by
  rw [admissionsOk_iff] at hs ⊢
  intro l q
  rw [hl, hc, ← hs]
  constructor
  · intro h
    split at h
    · cases h
    · next hne => exact ⟨h, fun ht => hne (holds_unique hr ((hs i p).1 hi) ((hs l q).1 h) ht)⟩
  · rintro ⟨h, ht⟩
    split
    · next e =>
      subst e
      rw [hi] at h
      exact absurd (congrArg Admission.tag (Option.some.inj h)).symm ht
    · exact h

/-! ## The lanes' events -/

theorem Lane.ended_barrierOk (l : Lane) : l.ended.barrierOk := ⟨rfl, nofun⟩

namespace State

variable (s : State)

theorem endAdmission_keeps (i : Fin 8) (p : Admission) (why : AdmissionEnd) : Keeps s (s.endAdmission i p why) :=
  ((s.removeCar_keeps _).trans (updLane_keeps _ i _ fun _ => Lane.ended_barrierOk _)).trans (post_quiet _ _ _).toKeeps

theorem endAdmission_admissions {i : Fin 8} {p : Admission} (why : AdmissionEnd) (hi : s.lanes[i].pending = some p)
    (hr : carsRise s.cars) (hs : s.admissionsOk) : (s.endAdmission i p why).admissionsOk := by
  refine admissions_end hr hs hi (fun l => ?_) fun l q => ?_
  · simp only [endAdmission, post_lanes, updLane_lanes, removeCar_lanes, Fin.getElem_fin, vmod_get]
    split <;> rfl
  · simp only [holds, endAdmission, post_cars, updLane_cars, removeCar_cars, List.mem_filter, bne_iff_ne]
    constructor
    · rintro ⟨c, ⟨hc, hne⟩, ht, h⟩
      exact ⟨⟨c, hc, ht, h⟩, ht ▸ hne⟩
    · rintro ⟨⟨c, hc, ht, h⟩, hne⟩
      exact ⟨c, ⟨hc, ht ▸ hne⟩, ht, h⟩

theorem teardownLane_keeps (c : Fin 6) (i : Fin 8) : Keeps s (s.teardownLane c i) := by
  unfold teardownLane
  split
  · split
    · exact s.endAdmission_keeps i _ _
    · exact .refl s
  · exact .refl s

theorem cancelAdmissions_keeps (c : Fin 6) : Keeps s (s.cancelAdmissions c) :=
  Keeps.foldl _ (fun s i => s.teardownLane_keeps c i) _ _

theorem teardownLane_admissions (c : Fin 6) (i : Fin 8) (hr : carsRise s.cars) (hs : s.admissionsOk) :
    (s.teardownLane c i).admissionsOk := by
  unfold teardownLane
  split
  · next hi =>
    split
    · exact s.endAdmission_admissions _ hi hr hs
    · exact hs
  · exact hs

theorem endAdmission_sameShows (i : Fin 8) (p : Admission) (why : AdmissionEnd) : SameShows s (s.endAdmission i p why) :=
  .of

theorem teardownLane_sameShows (c : Fin 6) (i : Fin 8) : SameShows s (s.teardownLane c i) := by
  unfold teardownLane
  split
  · split
    · exact s.endAdmission_sameShows i _ _
    · exact .refl s
  · exact .refl s

theorem cancelAdmissions_sameShows (c : Fin 6) : SameShows s (s.cancelAdmissions c) :=
  foldl_related SameShows .refl .trans _ (fun s i => s.teardownLane_sameShows c i) _ _

/-! ### Completion -/

theorem complete_keeps (i : Fin 8) (p : Admission) : Keeps s (s.complete i p) := by
  unfold complete
  dsimp only
  split
  · exact s.updLane_keeps i _ fun _ => Lane.ended_barrierOk _
  · exact (((s.updCar_keeps p.tag _).trans (count_quiet _ _ _ _).toKeeps).trans
      (updLane_keeps _ i _ (by exact fun _ => ⟨rfl, nofun⟩))).trans (post_quiet _ _ _).toKeeps

theorem complete_sameShows (i : Fin 8) (p : Admission) : SameShows s (s.complete i p) := by
  unfold complete
  dsimp only
  split
  · exact .of
  · exact (SameShows.of (t := s.updCar p.tag _)).trans ((count_quiet _ _ _ _).shows.trans .of)

theorem count_lanes (r : Fin 16) (n : Nat) (f : Counts → Counts) : (s.count r n f).lanes = s.lanes := by
  unfold count
  split <;> rfl

theorem count_cars (r : Fin 16) (n : Nat) (f : Counts → Counts) : (s.count r n f).cars = s.cars := by
  unfold count
  split <;> rfl

/-- The car of a completed admission is on the lot, so its lane holds no admission and no car is PENDING for it (R94). -/
theorem complete_admissions {i : Fin 8} {p : Admission} (hi : s.lanes[i].pending = some p) (hr : carsRise s.cars)
    (hs : s.admissionsOk) : (s.complete i p).admissionsOk := by
  obtain ⟨d, hd, hdt, -⟩ := hs.1 i p hi
  unfold complete
  split
  · next hnone => exact absurd (beq_iff_eq.2 hdt) (List.find?_eq_none.1 hnone d hd)
  · refine admissions_end hr hs hi (fun l => ?_) fun l q => ?_
    · simp only [post_lanes, updLane_lanes, count_lanes, updCar_lanes, Fin.getElem_fin, vmod_get]
      split <;> rfl
    · simp only [holds, post_cars, updLane_cars, count_cars, updCar_cars, List.mem_map, beq_iff_eq]
      constructor
      · rintro ⟨c', ⟨c, hc, rfl⟩, ht, hscreen, hrec, hp, hl⟩
        split at hp
        · cases hp
        · next hne =>
          rw [if_neg hne] at ht hscreen hrec hl
          exact ⟨⟨c, hc, ht, hscreen, hrec, hp, hl⟩, ht ▸ hne⟩
      · rintro ⟨⟨c, hc, ht, h⟩, hne⟩
        exact ⟨c, ⟨c, hc, if_neg (ht ▸ hne)⟩, ht, h⟩

/-! ### An admission that begins -/

theorem mem_insertCar {c d : Car} {cars : List Car} : d ∈ insertCar c cars ↔ d = c ∨ d ∈ cars := by
  induction cars with
  | nil => simp [insertCar]
  | cons e rest ih =>
    simp only [insertCar]
    split
    · simp
    · simp only [List.mem_cons, ih]
      tauto

theorem insertCar_perm (c : Car) (cars : List Car) : (insertCar c cars).Perm (c :: cars) := by
  induction cars with
  | nil => exact .refl _
  | cons e rest ih =>
    simp only [insertCar]
    split
    · exact .refl _
    · exact (ih.cons e).trans (.swap c e rest)

theorem carsRise_insertCar {c : Car} {cars : List Car} (h : carsRise cars) (hc : 1 ≤ c.tag ∧ c.tag ≤ 65535)
    (hnew : ∀ d ∈ cars, d.tag ≠ c.tag) : carsRise (insertCar c cars) := by
  refine ⟨List.pairwise_map.2 ?_, fun d hd => ?_⟩
  · have hp := List.pairwise_map.1 h.1
    clear h
    induction cars with
    | nil => exact List.pairwise_singleton _ _
    | cons e rest ih =>
      obtain ⟨he, hrest⟩ := List.pairwise_cons.1 hp
      simp only [insertCar]
      split
      · next hlt =>
        refine List.pairwise_cons.2 ⟨fun d hd => ?_, hp⟩
        rcases List.mem_cons.1 hd with rfl | hd
        · exact hlt
        · exact Nat.lt_trans hlt (he d hd)
      · next hnlt =>
        refine List.pairwise_cons.2 ⟨fun d hd => ?_, ih (fun d hd => hnew d (List.mem_cons_of_mem _ hd)) hrest⟩
        rcases mem_insertCar.1 hd with rfl | hd
        · have := hnew e List.mem_cons_self
          omega
        · exact he d hd
  · rcases mem_insertCar.1 hd with rfl | hd
    · exact hc
    · exact h.2 d hd

/-- What R92 checks before it takes an admission. -/
structure Admits (i : Fin 8) (tag : Nat) (screen : Fin 6) : Prop where
  range : 1 ≤ tag ∧ tag ≤ 65535
  mode : s.lanes[i].mode = .entry
  lane : s.lanes[i].pending = none
  unused : ∀ c ∈ s.cars, c.tag ≠ tag
  room : s.carCount screen < s.site.capacity.get screen

theorem acceptAdmit_keeps {i : Fin 8} {tag : Nat} {screen : Fin 6} (h : s.Admits i tag screen) (r : Fin 16) (n : Nat) :
    Keeps s (s.acceptAdmit i tag screen r n) := by
  refine Keeps.trans (b := { s with cars := insertCar (newCar i tag screen r n) s.cars })
    ⟨fun _ => id, id, id, id, fun ⟨hrise, hcount, hcap⟩ => ⟨carsRise_insertCar hrise h.range h.unused, fun j => ?_, hcap⟩⟩
    (updLane_keeps _ i _ fun _ => ⟨rfl, fun _ => h.mode⟩)
  have hroom := h.room
  have hj := hcount j
  simp only [carCount, (insertCar_perm _ _).countP_eq, List.countP_cons] at hroom hj ⊢
  split
  · next e =>
    obtain rfl : screen = j := beq_iff_eq.1 e
    exact hroom
  · exact hj

theorem acceptAdmit_admissions {i : Fin 8} {tag : Nat} {screen : Fin 6} (h : s.Admits i tag screen) (r : Fin 16) (n : Nat)
    (hs : s.admissionsOk) : (s.acceptAdmit i tag screen r n).admissionsOk := by
  rw [admissionsOk_iff] at hs ⊢
  intro l q
  have hpending : (s.acceptAdmit i tag screen r n).lanes[l].pending
      = if l = i then some ⟨tag, screen, r⟩ else s.lanes[l].pending := by
    simp only [acceptAdmit, updLane_lanes, Fin.getElem_fin, vmod_get]
    split <;> rfl
  have hholds : (s.acceptAdmit i tag screen r n).holds l q ↔ (l = i ∧ q = ⟨tag, screen, r⟩) ∨ s.holds l q := by
    simp only [holds, acceptAdmit, updLane_cars, mem_insertCar]
    constructor
    · rintro ⟨c, rfl | hc, ht, hscreen, hrec, hp, hl⟩
      · exact .inl ⟨hl.symm, by cases q; simp_all [newCar]⟩
      · exact .inr ⟨c, hc, ht, hscreen, hrec, hp, hl⟩
    · rintro (⟨rfl, rfl⟩ | ⟨c, hc, h⟩)
      · exact ⟨_, .inl rfl, rfl, rfl, rfl, rfl, rfl⟩
      · exact ⟨c, .inr hc, h⟩
  rw [hpending, hholds, ← hs l q]
  split
  · next e =>
    subst e
    rw [h.lane]
    simp [eq_comm]
  · next hne => simp [hne]

/-! ### The release of the cars of a screen -/

theorem removeCar_sameShows (tag : Nat) : SameShows s (s.removeCar tag) := .of

theorem releaseCar_sameShows (tag : Nat) : SameShows s (s.releaseCar tag) :=
  (s.releaseOrders_quiet tag).shows.trans (removeCar_sameShows _ tag)

theorem sweep_keeps (i : Fin 6) : Keeps s (s.sweep i) :=
  Keeps.foldl _ (fun s (c : Car) => s.releaseCar_keeps c.tag) _ _

theorem sweep_sameShows (i : Fin 6) : SameShows s (s.sweep i) :=
  foldl_related SameShows .refl .trans _ (fun s (c : Car) => s.releaseCar_sameShows c.tag) _ _

/-- Removing a car that no lane waits for leaves the admissions as they are. -/
theorem releaseCar_holds (tag : Nat) (h : ∀ l p, s.holds l p → p.tag ≠ tag) (l : Fin 8) (p : Admission) :
    (s.releaseCar tag).holds l p ↔ s.holds l p := by
  have hq := (s.releaseOrders_quiet tag).gate
  have hrel : (s.releaseCar tag).holds l p ↔ (s.releaseOrders tag).holds l p ∧ p.tag ≠ tag := by
    simp only [holds, releaseCar, removeCar_cars, List.mem_filter, bne_iff_ne]
    constructor
    · rintro ⟨c, ⟨hc, hne⟩, ht, hrest⟩
      exact ⟨⟨c, hc, ht, hrest⟩, ht ▸ hne⟩
    · rintro ⟨⟨c, hc, ht, hrest⟩, hne⟩
      exact ⟨c, ⟨hc, ht ▸ hne⟩, ht, hrest⟩
  rw [hrel, hq.holds_iff]
  exact ⟨And.left, fun hp => ⟨hp, h l p hp⟩⟩

theorem releaseCar_pending (tag : Nat) (l : Fin 8) : (s.releaseCar tag).lanes[l].pending = s.lanes[l].pending :=
  (s.releaseOrders_quiet tag).gate.pending l

theorem releaseCar_admissions (tag : Nat) (h : ∀ l p, s.holds l p → p.tag ≠ tag) (hs : s.admissionsOk) :
    (s.releaseCar tag).admissionsOk := by
  rw [admissionsOk_iff] at hs ⊢
  exact fun l p => by rw [releaseCar_pending, releaseCar_holds s tag h, hs]

/-- The release of cars that no lane waits for, one after another. -/
theorem foldl_releaseCar_admissions (cars : List Car) (h : ∀ l p, s.holds l p → ∀ c ∈ cars, p.tag ≠ c.tag)
    (hs : s.admissionsOk) : (cars.foldl (fun t c => t.releaseCar c.tag) s).admissionsOk := by
  induction cars generalizing s with
  | nil => exact hs
  | cons c rest ih =>
    have hc : ∀ l p, s.holds l p → p.tag ≠ c.tag := fun l p hp => h l p hp c List.mem_cons_self
    refine ih _ (fun l p hp d hd => ?_) (s.releaseCar_admissions c.tag hc hs)
    exact h l p ((s.releaseCar_holds c.tag hc l p).1 hp) d (List.mem_cons_of_mem _ hd)

/-- A screen whose admissions have ended has its cars released without touching an admission (R21). -/
theorem sweep_admissions {i : Fin 6} (hr : carsRise s.cars) (hs : s.admissionsOk)
    (hi : ∀ (l : Fin 8) p, s.lanes[l].pending = some p → p.screen ≠ i) : (s.sweep i).admissionsOk := by
  refine s.foldl_releaseCar_admissions _ (fun l p hp c hc ht => ?_) hs
  have hscreen := hi l p (((admissionsOk_iff s).1 hs l p).2 hp)
  obtain ⟨d, hd, hdt, hds, -⟩ := hp
  obtain ⟨hcm, hcs⟩ := List.mem_filter.1 hc
  obtain rfl := hr.eq_of_tag hd hcm (hdt.trans ht)
  exact hscreen (hds.symm.trans (beq_iff_eq.1 hcs))

end State

/-! ## Banks of units changed one after another -/

/-- Units changed one after another, none twice: each one in the list is changed, and every other stays. -/
theorem foldl_vmod_get {α : Type} {n : Nat} (f : Fin n → α → α) (xs : List (Fin n)) (hx : xs.Nodup) (v : Vector α n)
    (j : Fin n) : (xs.foldl (fun v i => vmod v i (f i)) v)[j.val] = if j ∈ xs then f j v[j.val] else v[j.val] := by
  induction xs generalizing v with
  | nil => rfl
  | cons x xs ih =>
    obtain ⟨hne, hxs⟩ := List.nodup_cons.1 hx
    rw [List.foldl_cons, ih hxs, vmod_get]
    by_cases hj : j = x
    · subst hj
      simp [hne]
    · simp [hj]

/-- A change of every unit. -/
theorem foldl_vmod_all {α : Type} {n : Nat} (f : α → α) (xs : List (Fin n)) (hx : xs.Nodup) (hall : ∀ i, i ∈ xs)
    (v : Vector α n) : xs.foldl (fun v i => vmod v i f) v = v.map f := by
  ext j hj
  rw [foldl_vmod_get (fun _ => f) xs hx v ⟨j, hj⟩, if_pos (hall _), Vector.getElem_map]

/-- A field that each step of a fold changes by itself is changed by the fold of those changes. -/
theorem foldl_field {α β : Type} (field : State → β) (f : State → α → State) (g : β → α → β)
    (h : ∀ s x, field (f s x) = g (field s) x) (xs : List α) (s : State) :
    field (xs.foldl f s) = xs.foldl g (field s) := by
  induction xs generalizing s with
  | nil => rfl
  | cons x xs ih => rw [List.foldl_cons, List.foldl_cons, ih, h]

theorem mem_allLanes (i : Fin 8) : i ∈ allLanes := by revert i; decide
theorem nodup_allLanes : allLanes.Nodup := by decide

/-! ## The teardown (R21) -/

/-- A lane after step 1 of a screen's teardown (R98). -/
def Lane.tornDown (c : Fin 6) (l : Lane) : Lane := if l.pending.any (·.screen = c) then l.ended else l

namespace State

variable (s : State)

theorem teardownLane_lanes (c : Fin 6) (i : Fin 8) : (s.teardownLane c i).lanes = vmod s.lanes i (Lane.tornDown c) := by
  unfold teardownLane
  split
  · next p hp =>
    have hp' : s.lanes[i.val].pending = some p := hp
    split
    · next hc => exact vmod_congr _ _ _ _ (by simp [Lane.tornDown, hp', hc])
    · next hc => exact (vmod_same _ _ _ (by simp [Lane.tornDown, hp', hc])).symm
  · next hp =>
    have hp' : s.lanes[i.val].pending = none := hp
    exact (vmod_same _ _ _ (by simp [Lane.tornDown, hp'])).symm

theorem cancelAdmissions_lanes (c : Fin 6) : (s.cancelAdmissions c).lanes = s.lanes.map (Lane.tornDown c) := by
  rw [cancelAdmissions, foldl_field State.lanes _ (fun v i => vmod v i (Lane.tornDown c)) (fun s i => s.teardownLane_lanes c i)]
  exact foldl_vmod_all _ _ nodup_allLanes mem_allLanes _

theorem cancelAdmissions_pending (c : Fin 6) (l : Fin 8) :
    (s.cancelAdmissions c).lanes[l].pending = s.lanes[l].pending.filter (·.screen ≠ c) := by
  rw [cancelAdmissions_lanes, Fin.getElem_fin, Vector.getElem_map, Lane.tornDown, Fin.getElem_fin]
  cases h : s.lanes[l.val].pending with
  | none => simp [h]
  | some p =>
    by_cases hp : p.screen = c
    · simp [hp, Lane.ended, Option.filter]
    · simp [hp, h, Option.filter]

theorem cancelAdmissions_admissions (c : Fin 6) (hr : s.carsOk) (hs : s.admissionsOk) :
    (s.cancelAdmissions c).carsOk ∧ (s.cancelAdmissions c).admissionsOk :=
  foldl_related (fun s t => s.carsOk ∧ s.admissionsOk → t.carsOk ∧ t.admissionsOk) (fun _ => id) (fun h k => k ∘ h) _
    (fun s i ⟨hr, hs⟩ => ⟨(s.teardownLane_keeps c i).cars hr, s.teardownLane_admissions c i hr.1 hs⟩) _ _ ⟨hr, hs⟩

theorem closeBound_keeps (i : Fin 6) : Keeps s (s.closeBound i) := by
  unfold closeBound
  split
  · exact .refl s
  · exact ((s.book_keeps _).trans (updScreen_keeps _ _ _)).trans (postAll_quiet _ _).toKeeps

theorem closeBound_gate (i : Fin 6) : SameGate s (s.closeBound i) := by
  unfold closeBound
  split
  · exact .refl s
  · refine SameGate.trans ?_ (postAll_quiet _ _).gate
    exact ⟨fun _ => rfl, rfl⟩

/-- The closing of the bound record is the one change to the book (R128). -/
theorem closeBound_records (i : Fin 6) : (s.closeBound i).book.records = match s.screens[i].bound with
    | some r => vmod s.book.records r fun c => c.close s.book.siteTime false
    | none => s.book.records := by
  unfold closeBound
  split
  · next h => rw [h]
  · next r h => rw [h, (postAll_frame _ _).book]; rfl

theorem teardown_keeps (i : Fin 6) : Keeps s (s.teardown i) := by
  unfold teardown clearLines
  exact (((s.cancelAdmissions_keeps i).trans (sweep_keeps _ i)).trans (closeBound_keeps _ i)).trans (updCue_quiet _ i _).toKeeps

theorem teardown_admissions (i : Fin 6) (hr : s.carsOk) (hs : s.admissionsOk) : (s.teardown i).admissionsOk := by
  obtain ⟨hr', hs'⟩ := s.cancelAdmissions_admissions i hr hs
  unfold teardown clearLines
  have hsweep := sweep_admissions _ hr'.1 hs' (i := i) fun l p hp => by
    rw [cancelAdmissions_pending] at hp
    exact of_decide_eq_true (Option.filter_eq_some_iff.1 hp).2
  exact (updCue_quiet _ i _).gate.admissions ((closeBound_gate _ i).admissions hsweep)

/-- The part of the book that a teardown moves: the screen's bound record closes (R21, R128). -/
theorem teardown_record (i : Fin 6) (r : Fin 16) : (s.teardown i).book.records[r].screen = s.book.records[r].screen
    ∧ (s.teardown i).book.records[r].state = if s.screens[i].bound = some r then .closed else s.book.records[r].state := by
  have h := (s.cancelAdmissions_sameShows i).trans (sweep_sameShows _ i)
  rw [teardown, clearLines, updCue_book]
  generalize (s.cancelAdmissions i).sweep i = u at h
  obtain ⟨hstate, hscreen⟩ := h.records r
  rw [closeBound_records, (h.screens i).2]
  cases hbound : s.screens[i].bound with
  | none => exact ⟨hscreen, by simpa using hstate⟩
  | some q =>
    simp only [Fin.getElem_fin, vmod_get, Option.some.injEq, eq_comm (a := q)]
    split
    · next hq => subst hq; exact ⟨hscreen, rfl⟩
    · exact ⟨hscreen, hstate⟩

theorem closeBound_powered (i : Fin 6) : (s.closeBound i).powered = s.powered := by
  unfold closeBound
  split
  · rfl
  · exact (postAll_frame _ _).powered

theorem closeBound_strikeQueue (i : Fin 6) : (s.closeBound i).strikeQueue = s.strikeQueue := by
  unfold closeBound
  split
  · rfl
  · exact (postAll_frame _ _).strikeQueue

theorem teardown_powered (i : Fin 6) : (s.teardown i).powered = s.powered := by
  unfold teardown clearLines
  rw [updCue_powered, closeBound_powered, (sweep_sameShows _ i).powered, (s.cancelAdmissions_sameShows i).powered]

theorem teardown_strikeQueue (i : Fin 6) : (s.teardown i).strikeQueue = s.strikeQueue := by
  unfold teardown clearLines
  rw [updCue_strikeQueue, closeBound_strikeQueue, (sweep_sameShows _ i).strikeQueue, (s.cancelAdmissions_sameShows i).strikeQueue]

end State

end Sys2Proof.Machine
end

section
/-! The shows (R13, R15): the changes of one screen that keep the strike queue and the bindings, and what every event of the
screen unit keeps. -/

namespace Sys2Proof.Machine

theorem mem_allScreens (i : Fin 6) : i ∈ allScreens := by revert i; decide

theorem Screen.showing_of_state {a b : Screen} (h : b.state = a.state) : b.showing = a.showing := by
  simp only [showing, h]

theorem SameShows.showsOk {s t : State} (h : SameShows s t) (hs : s.showsOk) : t.showsOk := by
  intro hp
  obtain ⟨⟨hnd, hwait, hone⟩, hshow, hbound⟩ := hs (h.powered ▸ hp)
  refine ⟨⟨by rwa [h.strikeQueue], fun i => ?_, fun i j => ?_⟩, fun i => ?_, fun i r => ?_⟩
  · rw [h.strikeQueue, (h.screens i).1, hwait]
  · rw [(h.screens i).1, (h.screens j).1]; exact hone i j
  · rw [(h.screens i).2, Screen.showing_of_state (h.screens i).1, hshow]
  · rw [(h.screens i).2, (h.records r).1, (h.records r).2, hbound]

/-- A change of a screen inside its show or outside every show, which neither queues nor strikes it. -/
structure Screen.SameShow (a b : Screen) : Prop where
  bound : b.bound = a.bound
  showing : b.showing = a.showing
  waits : b.state = .strikeWait ↔ a.state = .strikeWait
  strikes : b.state = .striking → a.state = .striking

namespace State

variable (s : State)

theorem updScreen_shows {i : Fin 6} {f : Screen → Screen} (h : s.screens[i].SameShow (f s.screens[i])) (hs : s.showsOk) :
    (s.updScreen i f).showsOk := by
  intro hp
  obtain ⟨⟨hnd, hwait, hone⟩, hshow, hbound⟩ := hs hp
  have hall : ∀ j : Fin 6, s.screens[j].SameShow (s.updScreen i f).screens[j] := by
    intro j
    simp only [updScreen_screens, Fin.getElem_fin, vmod_get]
    split
    · next e => subst e; exact h
    · exact ⟨rfl, rfl, Iff.rfl, id⟩
  exact ⟨⟨hnd, fun j => (hwait j).trans (hall j).waits.symm,
    fun j k hj hk => hone j k ((hall j).strikes hj) ((hall k).strikes hk)⟩,
    fun j => by rw [(hall j).bound, (hall j).showing, hshow],
    fun j r => by rw [(hall j).bound]; exact hbound j r⟩

/-- A screen leaves the strike queue and its show, and its record closes. -/
theorem shows_leave {t : State} {i : Fin 6} (hp : t.powered = s.powered) (hq : t.strikeQueue = s.strikeQueue.erase i)
    (hi : t.screens[i].showing = false ∧ t.screens[i].bound = none)
    (hj : ∀ j : Fin 6, j ≠ i → t.screens[j].state = s.screens[j].state ∧ t.screens[j].bound = s.screens[j].bound)
    (hr : ∀ r : Fin 16, t.book.records[r].screen = s.book.records[r].screen
      ∧ t.book.records[r].state = if s.screens[i].bound = some r then .closed else s.book.records[r].state)
    (hs : s.showsOk) : t.showsOk := by
  intro ht
  obtain ⟨⟨hnd, hwait, hone⟩, hshow, hbound⟩ := hs (hp ▸ ht)
  obtain ⟨hin, hib⟩ := hi
  have hidle : t.screens[i].state ≠ .strikeWait ∧ t.screens[i].state ≠ .striking := by
    constructor <;> intro h <;> simp only [Screen.showing, h, reduceCtorEq] at hin
  refine ⟨⟨hq ▸ hnd.erase i, fun j => ?_, fun j k hjs hks => ?_⟩, fun j => ?_, fun j r => ?_⟩
  · rw [hq, hnd.mem_erase_iff]
    by_cases e : j = i
    · subst e; simp [-Fin.getElem_fin, hidle.1]
    · rw [(hj j e).1, hwait]; simp [-Fin.getElem_fin, e]
  · have hji : j ≠ i := fun e => hidle.2 (e ▸ hjs)
    have hki : k ≠ i := fun e => hidle.2 (e ▸ hks)
    exact hone j k ((hj j hji).1 ▸ hjs) ((hj k hki).1 ▸ hks)
  · by_cases e : j = i
    · subst e; rw [hin, hib]; rfl
    · rw [Screen.showing_of_state (hj j e).1, (hj j e).2, hshow]
  · rw [(hr r).1, (hr r).2]
    by_cases e : j = i
    · subst e
      rw [hib]
      refine ⟨nofun, fun ⟨hopen, hscreen⟩ => ?_⟩
      split at hopen
      · cases hopen
      · next hne => exact absurd ((hbound j r).2 ⟨hopen, hscreen⟩) hne
    · rw [(hj j e).2, hbound]
      split
      · next hir =>
        refine ⟨fun ⟨_, hscreen⟩ => ?_, nofun⟩
        have := ((hbound i r).1 hir).2.symm.trans hscreen
        exact absurd (Option.some.inj this).symm e
      · rfl

/-- The head of the strike queue starts to strike (R13). -/
theorem grantStrike_shows {i : Fin 6} {rest : List (Fin 6)} (hq : s.strikeQueue = i :: rest)
    (hfree : ∀ j : Fin 6, s.screens[j].state ≠ .striking) (hs : s.showsOk) : (s.grantStrike i rest).showsOk := by
  intro hp
  obtain ⟨⟨hnd, hwait, hone⟩, hshow, hbound⟩ := hs hp
  rw [hq] at hnd
  obtain ⟨hni, hnd'⟩ := List.nodup_cons.1 hnd
  have hi : s.screens[i].state = .strikeWait := (hwait i).1 (hq ▸ List.mem_cons_self)
  have hself : (s.grantStrike i rest).screens[i].state = .striking ∧ (s.grantStrike i rest).screens[i].bound = s.screens[i].bound := by
    simp [grantStrike, postState]
  have hother : ∀ j : Fin 6, j ≠ i → (s.grantStrike i rest).screens[j] = s.screens[j] := fun j hj => by
    simp only [grantStrike, postState, post_screens, updScreen_screens, Fin.getElem_fin, vmod_ne _ _ _ _ hj]
  have hshowing : s.screens[i].showing = true ∧ (s.grantStrike i rest).screens[i].showing = true := by
    simp only [Screen.showing, hi, hself.1, and_self]
  refine ⟨⟨hnd', fun j => ?_, fun j k hj hk => ?_⟩, fun j => ?_, fun j r => ?_⟩
  · change j ∈ rest ↔ _
    by_cases e : j = i
    · subst e; rw [hself.1]; simp [-Fin.getElem_fin, hni]
    · rw [hother j e, ← hwait, hq]; simp [-Fin.getElem_fin, e]
  · have all : ∀ m : Fin 6, (s.grantStrike i rest).screens[m].state = .striking → m = i := fun m hm => by
      by_contra e
      rw [hother m e] at hm
      exact hfree m hm
    rw [all j hj, all k hk]
  · by_cases e : j = i
    · subst e; rw [hshowing.2, hself.2, ← hshow, hshowing.1]
    · rw [hother j e, hshow]
  · by_cases e : j = i
    · subst e; rw [hself.2]; exact hbound j r
    · rw [hother j e]; exact hbound j r

theorem examine_shows (hs : s.showsOk) : s.examine.showsOk := by
  unfold examine
  split
  · exact hs
  · next i rest hq =>
    split
    · next hfree =>
      refine s.grantStrike_shows hq (fun j hj => ?_) hs
      simp only [supplyFree, Bool.and_eq_true, List.all_eq_true, bne_iff_ne] at hfree
      exact hfree.2 j (mem_allScreens j) hj
    · exact hs

/-- A DARK screen opens a FREE record and joins the strike queue (R12, R125). -/
theorem shows_strike {t : State} {i : Fin 6} {r : Fin 16} (hp : t.powered = s.powered)
    (hq : t.strikeQueue = s.strikeQueue ++ [i]) (hdark : s.screens[i].state = .dark)
    (hi : t.screens[i].state = .strikeWait ∧ t.screens[i].bound = some r)
    (hj : ∀ j : Fin 6, j ≠ i → t.screens[j].state = s.screens[j].state ∧ t.screens[j].bound = s.screens[j].bound)
    (hfree : s.book.records[r].state = .free)
    (hr : t.book.records[r].state = .opened ∧ t.book.records[r].screen = some i)
    (ho : ∀ q : Fin 16, q ≠ r → t.book.records[q].state = s.book.records[q].state
      ∧ t.book.records[q].screen = s.book.records[q].screen)
    (hs : s.showsOk) : t.showsOk := by
  intro ht
  obtain ⟨⟨hnd, hwait, hone⟩, hshow, hbound⟩ := hs (hp ▸ ht)
  have hni : i ∉ s.strikeQueue := fun h => by rw [hwait, hdark] at h; cases h
  have hunbound : s.screens[i].bound = none := by
    have h := hshow i
    simp only [Screen.showing, hdark] at h
    exact Option.not_isSome_iff_eq_none.1 (by rw [← h]; decide)
  refine ⟨⟨hq ▸ hnd.append (List.nodup_singleton i) (by simpa using hni), fun j => ?_, fun j k hjs hks => ?_⟩,
    fun j => ?_, fun j q => ?_⟩
  · rw [hq, List.mem_append, List.mem_singleton]
    by_cases e : j = i
    · subst e; simp [-Fin.getElem_fin, hi.1]
    · rw [(hj j e).1, hwait]; simp [-Fin.getElem_fin, e]
  · have hne : ∀ m : Fin 6, t.screens[m].state = .striking → m ≠ i := fun m hm e => by rw [e, hi.1] at hm; cases hm
    exact hone j k ((hj j (hne j hjs)).1 ▸ hjs) ((hj k (hne k hks)).1 ▸ hks)
  · by_cases e : j = i
    · subst e; simp only [Screen.showing, hi.1, hi.2, Option.isSome_some]
    · rw [Screen.showing_of_state (hj j e).1, (hj j e).2, hshow]
  · by_cases e : j = i <;> by_cases f : q = r
    · subst e f; simp [-Fin.getElem_fin, hi.2, hr]
    · subst e
      rw [hi.2, (ho q f).1, (ho q f).2, ← hbound, hunbound]
      simp [-Fin.getElem_fin, Ne.symm f]
    · subst f
      rw [(hj j e).2, hbound, hfree, hr.2]
      simp [-Fin.getElem_fin, Ne.symm e]
    · rw [(hj j e).2, (ho q f).1, (ho q f).2, hbound]

end State

end Sys2Proof.Machine
end

section
/-! Every request and every event keeps the invariants of the part, and so does a step (O56 to O59). -/

namespace Sys2Proof.Machine

/-! ## What an event keeps -/

/-- Every invariant of the part is kept, whichever of them hold. -/
structure Stays (s t : State) : Prop extends Keeps s t where
  admissions : s.carsOk → s.admissionsOk → t.admissionsOk
  shows : s.showsOk → t.showsOk

theorem Quiet.stays {s t : State} (h : Quiet s t) : Stays s t :=
  ⟨h.toKeeps, fun _ => h.gate.admissions, h.shows.showsOk⟩

namespace Stays

theorem refl (s : State) : Stays s s := (Quiet.refl s).stays

theorem trans {a b c : State} (h : Stays a b) (k : Stays b c) : Stays a c :=
  ⟨h.toKeeps.trans k.toKeeps, fun hc ha => k.admissions (h.cars hc) (h.admissions hc ha), k.shows ∘ h.shows⟩

/-- An event that moves no show. -/
theorem of_sameShows {s t : State} (h : Keeps s t) (ha : s.carsOk → s.admissionsOk → t.admissionsOk) (hs : SameShows s t) :
    Stays s t :=
  ⟨h, ha, hs.showsOk⟩

/-- An event that moves no admission. -/
theorem of_sameGate {s t : State} (h : Keeps s t) (hg : SameGate s t) (hs : s.showsOk → t.showsOk) : Stays s t :=
  ⟨h, fun _ => hg.admissions, hs⟩

end Stays

/-! ## Screens -/

/-- READY, RUNNING and HOLDING are states of a show that neither queue nor strike. -/
theorem Screen.SameShow.of_live {a b : Screen} (hb : b.bound = a.bound) (ha : a.state ∈ [ScreenState.ready, .running, .holding])
    (hl : b.state ∈ [ScreenState.ready, .running, .holding]) : a.SameShow b := by
  have live : ∀ c : Screen, c.state ∈ [ScreenState.ready, .running, .holding] →
      c.showing = true ∧ c.state ≠ .strikeWait ∧ c.state ≠ .striking := by
    intro c hc
    simp only [List.mem_cons, List.not_mem_nil, or_false] at hc
    rcases hc with h | h | h <;> simp only [Screen.showing, h, ne_eq, reduceCtorEq, not_false_eq_true, and_self]
  obtain ⟨hsa, hwa, -⟩ := live a ha
  obtain ⟨hsb, hwb, hkb⟩ := live b hl
  exact ⟨hb, hsb.trans hsa.symm, ⟨fun h => absurd h hwb, fun h => absurd h hwa⟩, fun h => absurd h hkb⟩

namespace State

variable (s : State)

theorem postState_quiet (i : Fin 6) (left : ScreenState) (why : StateReason) : Quiet s (s.postState i left why) :=
  s.post_quiet _ _

theorem updScreen_gate (i : Fin 6) (f : Screen → Screen) : SameGate s (s.updScreen i f) := ⟨fun _ => rfl, rfl⟩

theorem updScreen_stays {i : Fin 6} {f : Screen → Screen} (h : s.screens[i].SameShow (f s.screens[i])) :
    Stays s (s.updScreen i f) :=
  .of_sameGate (s.updScreen_keeps i f) (s.updScreen_gate i f) (s.updScreen_shows h)

/-- A change of a screen's program, position, marks and timers alone. -/
theorem updScreen_stays_of_state {i : Fin 6} {f : Screen → Screen} (hs : (f s.screens[i]).state = s.screens[i].state := by rfl)
    (hb : (f s.screens[i]).bound = s.screens[i].bound := by rfl) : Stays s (s.updScreen i f) :=
  s.updScreen_stays ⟨hb, Screen.showing_of_state hs, by rw [hs], by rw [hs]; exact id⟩

theorem withPolicyNotice_stays {i : Fin 6} {f : State → State} (h : Stays s (f s)) : Stays s (s.withPolicyNotice i f) := by
  unfold withPolicyNotice
  split
  · exact h
  · exact h.trans (hand_quiet _ _).stays

theorem holdScreen_stays {i : Fin 6} (why : HoldReason) (reason : StateReason) (h : s.screens[i].state = .running) :
    Stays s (s.holdScreen i why reason) :=
  (s.updScreen_stays (.of_live rfl (by simp [-Fin.getElem_fin, h]) (by simp [Screen.toHolding]))).trans
    (postState_quiet _ i _ _).stays

theorem runScreen_stays {i : Fin 6} (reason : StateReason) (h : s.screens[i].state = .ready ∨ s.screens[i].state = .holding) :
    Stays s (s.runScreen i reason) := by
  refine (s.updScreen_stays (.of_live rfl ?_ (by simp [Screen.toRunning]))).trans (postState_quiet _ i _ _).stays
  rcases h with h | h <;> simp [-Fin.getElem_fin, h]

theorem startSegment_stays (i : Fin 6) (index : Nat) : Stays s (s.startSegment i index) := by
  have h := (s.updScreen_stays_of_state (i := i) (f := fun c => { c with position := some ⟨index, 0⟩ })).trans
    (fireAt_quiet _ i ⟨index, 0⟩).stays
  unfold startSegment
  dsimp only
  split
  · exact h.trans (post_quiet _ _ _).stays
  · exact h

/-- The teardown of a screen that has gone to CLOSING or DARK, off the strike queue (R20 to R22). -/
theorem teardown_stays {i : Fin 6} {f : Screen → Screen} {q : List (Fin 6)} (hf : ∀ c, (f c).showing = false)
    (hb : ∀ c, (f c).bound = c.bound)
    (hq : s.powered = true → s.showsOk → q = s.strikeQueue.erase i) :
    Stays s (({ s with strikeQueue := q }.updScreen i f).teardown i) := by
  have hk : Keeps s ({ s with strikeQueue := q }.updScreen i f) := ⟨fun _ => id, id, id, id, id⟩
  have hg : SameGate s ({ s with strikeQueue := q }.updScreen i f) := ⟨fun _ => rfl, rfl⟩
  refine ⟨hk.trans (teardown_keeps _ i), fun hc ha => teardown_admissions _ i (hk.cars hc) (hg.admissions ha), fun hs hp => ?_⟩
  have hp' : s.powered = true := by rwa [teardown_powered] at hp
  refine s.shows_leave (i := i) (teardown_powered _ i) ?_ ?_ (fun j hj => ?_) (fun r => ?_) hs hp
  · rw [teardown_strikeQueue]
    exact hq hp' hs
  · simp only [teardown_screens, updScreen_screens, vmod_at, and_true]
    exact hf _
  · simp only [teardown_screens, updScreen_screens, Fin.getElem_fin, vmod_ne _ _ _ _ hj, and_self]
  · obtain ⟨hscreen, hstate⟩ := teardown_record ({ s with strikeQueue := q }.updScreen i f) i r
    rw [updScreen_screens, vmod_at, hb] at hstate
    exact ⟨hscreen, hstate⟩

/-- A screen outside STRIKE_WAIT closes (R22). -/
theorem enterClosing_stays {i : Fin 6} (why : StateReason) (h : s.screens[i].state ≠ .strikeWait) :
    Stays s (s.enterClosing i why) := by
  have hq : s.powered = true → s.showsOk → s.strikeQueue = s.strikeQueue.erase i := fun hp hs =>
    (List.erase_of_not_mem fun hm => h (((hs hp).1.2.1 i).1 hm)).symm
  have ht : Stays s ((s.updScreen i Screen.toClosing).teardown i) := s.teardown_stays (fun _ => rfl) (fun _ => rfl) hq
  unfold enterClosing
  exact ht.trans (postState_quiet _ i _ _).stays

theorem stopWaiting_stays (i : Fin 6) : Stays s (s.stopWaiting i) :=
  s.withPolicyNotice_stays ((s.teardown_stays (f := Screen.toDark) (fun _ => rfl) (fun _ => rfl) fun _ _ => rfl).trans
    (postState_quiet _ i _ _).stays)

theorem endProgram_stays {i : Fin 6} (h : s.screens[i].state = .running ∨ s.screens[i].state = .holding) :
    Stays s (s.endProgram i) := by
  unfold endProgram
  split
  · exact s.enterClosing_stays _ (by rcases h with h | h <;> rw [h] <;> decide)
  · refine (s.updScreen_stays (.of_live rfl ?_ (by simp [Screen.toReady]))).trans (postState_quiet _ i _ _).stays
    rcases h with h | h <;> simp [-Fin.getElem_fin, h]

theorem endSegment_stays {i : Fin 6} (index : Nat) (holdAtEnd : Bool) (h : s.screens[i].state = .running) :
    Stays s (s.endSegment i index holdAtEnd) := by
  unfold endSegment
  split
  · exact s.holdScreen_stays _ _ h
  · split
    · exact s.startSegment_stays i _
    · exact s.endProgram_stays (.inl h)

theorem countFrame_stays {i : Fin 6} (p : Position) (h : s.screens[i].state = .running) : Stays s (s.countFrame i p) := by
  have h1 := (s.updScreen_stays_of_state (i := i) (f := fun c =>
    { c with position := some ⟨p.segment, p.frame + 1⟩, frameLossTimer := .start Config.frameLossMs })).trans
    (fireAt_quiet _ i ⟨p.segment, p.frame + 1⟩).stays
  unfold countFrame
  dsimp only
  split
  · split
    · refine h1.trans (endSegment_stays _ _ _ ?_)
      rw [(fireAt_frame _ i _).screens, updScreen_screens, vmod_at]
      exact h
    · exact h1
  · exact h1

theorem moveOn_stays {i : Fin 6} (p : Position) (why : StateReason) (h : s.screens[i].state = .holding) :
    Stays s (s.moveOn i p why) := by
  unfold moveOn
  split
  · exact (s.runScreen_stays why (.inr h)).trans (startSegment_stays _ i _)
  · exact s.endProgram_stays (.inr h)

theorem grantStrike_keeps (i : Fin 6) (rest : List (Fin 6)) : Keeps s (s.grantStrike i rest) ∧ SameGate s (s.grantStrike i rest) := by
  unfold grantStrike
  dsimp only
  refine ⟨Keeps.trans ?_ (postState_quiet _ i _ _).toKeeps, SameGate.trans ?_ (postState_quiet _ i _ _).gate⟩
  · exact ⟨fun _ => id, id, id, id, id⟩
  · exact ⟨fun _ => rfl, rfl⟩

theorem examine_stays : Stays s s.examine := by
  have h : Keeps s s.examine ∧ SameGate s s.examine := by
    unfold examine
    split
    · exact ⟨.refl s, .refl s⟩
    · split
      · exact s.grantStrike_keeps _ _
      · exact ⟨.refl s, .refl s⟩
  exact .of_sameGate h.1 h.2 s.examine_shows

theorem freeRecord_free {r : Fin 16} (h : s.freeRecord = some r) : s.book.records[r].state = .free := by
  have hr := List.find?_some h
  exact beq_iff_eq.1 hr

theorem acceptStrike_stays {i : Fin 6} {r : Fin 16} (hi : s.screens[i].state = .dark) (hr : s.book.records[r].state = .free) :
    Stays s (s.acceptStrike i r) := by
  refine Stays.trans (s.withPolicyNotice_stays ?_) (examine_stays _)
  refine .of_sameGate ⟨fun _ h => Link.within_postReport h _, id, id, id, id⟩ ⟨fun _ => rfl, rfl⟩
    (s.shows_strike rfl rfl hi (r := r) ?_ (fun j hj => ?_) hr ?_ fun q hq => ?_)
  · simp [postState]
  · simp [postState, vmod_ne _ _ _ _ hj, openRecord]
  · simp [postState, openRecord]
  · simp [postState, openRecord, vmod_ne _ _ _ _ hq]

theorem acceptGo_stays {i : Fin 6} (start : Nat) (autoClose : Bool) (h : s.screens[i].state = .ready) :
    Stays s (s.acceptGo i start autoClose) := by
  have hc : ∀ t : State, Stays t (t.countProgram i) := fun t => by
    unfold countProgram
    split
    · exact (t.count_quiet _ _ _).stays
    · exact .refl t
  refine s.withPolicyNotice_stays ((((s.updScreen_stays_of_state).trans (runScreen_stays _ _ (.inl ?_))).trans (hc _)).trans
    (startSegment_stays _ i _))
  rw [updScreen_screens, vmod_at]
  exact h

end State

end Sys2Proof.Machine
end

section
/-! Numbers (R59, R125, R161): the first number from a counter on, with 1 after 65,535, that is not live. -/

namespace Sys2Proof.Machine

theorem nextNumber_range (n : Nat) : 1 ≤ nextNumber n ∧ nextNumber n ≤ 65535 := by
  unfold nextNumber
  split <;> omega

/-- The numbers counted from `n` on go round the 65,535 values. -/
theorem nextNumber_iterate {n : Nat} (h1 : 1 ≤ n) (h2 : n ≤ 65535) (k : Nat) :
    nextNumber^[k] n = (n - 1 + k) % 65535 + 1 := by
  induction k with
  | zero => simp only [Function.iterate_zero, id_eq]; omega
  | succ k ih =>
    rw [Function.iterate_succ_apply', ih, nextNumber]
    split <;> omega

theorem nextNumber_iterate_range {n : Nat} (h1 : 1 ≤ n) (h2 : n ≤ 65535) (k : Nat) :
    1 ≤ nextNumber^[k] n ∧ nextNumber^[k] n ≤ 65535 := by
  rw [nextNumber_iterate h1 h2]
  omega

/-- The pick skips live numbers one after another and stops at the first that is not, or when it may try no more. -/
theorem pickNumber_iterate (live : List Nat) (fuel n : Nat) : ∃ k ≤ fuel, pickNumber live fuel n = nextNumber^[k] n
    ∧ (∀ j < k, nextNumber^[j] n ∈ live) ∧ (k < fuel → pickNumber live fuel n ∉ live) := by
  induction fuel generalizing n with
  | zero => exact ⟨0, Nat.le_refl 0, rfl, nofun, nofun⟩
  | succ fuel ih =>
    by_cases hn : n ∈ live
    · obtain ⟨k, hk, hpick, hlive, hfree⟩ := ih (nextNumber n)
      have e : pickNumber live (fuel + 1) n = pickNumber live fuel (nextNumber n) := by
        rw [pickNumber, if_pos (List.contains_iff_mem.2 hn)]
      refine ⟨k + 1, Nat.succ_le_succ hk, by rw [e, hpick]; rfl, fun j hj => ?_, fun h => e ▸ hfree (Nat.lt_of_succ_lt_succ h)⟩
      cases j with
      | zero => exact hn
      | succ j => exact hlive j (Nat.lt_of_succ_lt_succ hj)
    · have e : pickNumber live (fuel + 1) n = n := by
        rw [pickNumber, if_neg fun h => hn (List.contains_iff_mem.1 h)]
      exact ⟨0, Nat.zero_le _, e, nofun, fun _ => e.symm ▸ hn⟩

/-- With fewer live numbers than there are numbers, one try more than there are live ones finds one that is not. -/
theorem pickNumber_spec {live : List Nat} {n : Nat} (h1 : 1 ≤ n) (h2 : n ≤ 65535) (hl : live.length < 65535) :
    pickNumber live live.length n ∉ live ∧ ∃ k ≤ live.length, pickNumber live live.length n = nextNumber^[k] n
      ∧ ∀ j < k, nextNumber^[j] n ∈ live := by
  obtain ⟨k, hk, hpick, hlive, hfree⟩ := pickNumber_iterate live live.length n
  refine ⟨fun hmem => ?_, k, hk, hpick, hlive⟩
  obtain rfl : k = live.length := Nat.le_antisymm hk (Nat.not_lt.1 fun h => hfree h hmem)
  have hsub : (List.range (live.length + 1)).map (nextNumber^[·] n) ⊆ live := by
    intro x hx
    obtain ⟨j, hj, rfl⟩ := List.mem_map.1 hx
    rcases Nat.lt_succ_iff_lt_or_eq.1 (List.mem_range.1 hj) with hj | rfl
    · exact hlive j hj
    · exact hpick ▸ hmem
  have hnodup : ((List.range (live.length + 1)).map (nextNumber^[·] n)).Nodup := by
    refine List.Nodup.map_on (fun i hi j hj h => ?_) List.nodup_range
    have hi' := List.mem_range.1 hi
    have hj' := List.mem_range.1 hj
    simp only [nextNumber_iterate h1 h2] at h
    omega
  have hle := (hnodup.subperm hsub).length_le
  simp at hle

theorem pickNumber_range {live : List Nat} {n : Nat} (h1 : 1 ≤ n) (h2 : n ≤ 65535) (fuel : Nat) :
    1 ≤ pickNumber live fuel n ∧ pickNumber live fuel n ≤ 65535 := by
  obtain ⟨k, -, hpick, -⟩ := pickNumber_iterate live fuel n
  rw [hpick]
  exact nextNumber_iterate_range h1 h2 k

end Sys2Proof.Machine
end

section
/-! An accepted ORDER (R143, R149, R165): what it takes from the stock, the tickets it makes, and its place in the table. -/

namespace Sys2Proof.Machine

/-! ## Stock -/

/-- An item after an order's lines of it have been taken; an untracked item stays as it is (R143). -/
def Item.taken (lines : List OrderLine) (i : Fin 128) (it : Item) : Item :=
  { it with stock := it.stock.map (· - unitsOfItem lines i) }

theorem Item.taken_of_untracked (lines : List OrderLine) (i : Fin 128) {it : Item} (h : it.stock = none) :
    it.taken lines i = it := by
  cases it
  cases h
  rfl

theorem Item.taken_of_no_units {lines : List OrderLine} {i : Fin 128} (h : unitsOfItem lines i = 0) (it : Item) :
    it.taken lines i = it := by
  cases it
  simp [Item.taken, h]

/-- The STOCK report that an item's decrement sends, if any (R143, R157). -/
def takenReports (lines : List OrderLine) (order : Nat) (i : Fin 128) (it : Item) : List (Nat × ReportRecord) :=
  match it.stock with
  | none => []
  | some n => stockReport i it n (n - unitsOfItem lines i) order

/-- Reports queued one after another at a site time (R190). -/
def Link.postEach (time : Word) (l : Link) (reports : List (Nat × ReportRecord)) : Link :=
  reports.foldl (fun l r => l.postReport ⟨time, r.1, r.2⟩) l

namespace State

variable (s : State)

theorem postAll_eq (rs : List (Nat × ReportRecord)) : s.postAll rs = { s with link := s.link.postEach s.book.siteTime rs } := by
  induction rs generalizing s with
  | nil => rfl
  | cons r rs ih => exact ih (s.post r.1 r.2)

/-- One item's decrement with its report. -/
theorem takeItem_eq (lines : List OrderLine) (n : Nat) (i : Fin 128) : s.takeItem lines n i = { s with
    kitchen := { s.kitchen with menu := vmod s.kitchen.menu i (Item.taken lines i) }
    link := s.link.postEach s.book.siteTime (takenReports lines n i s.kitchen.menu[i]) } := by
  cases h : s.kitchen.menu[i].stock with
  | none =>
    have hv : vmod s.kitchen.menu i (Item.taken lines i) = s.kitchen.menu :=
      vmod_same _ _ _ (Item.taken_of_untracked lines i h)
    simp only [takeItem, takenReports, h, hv]
    rfl
  | some q =>
    have hv : vmod s.kitchen.menu i (Item.taken lines i)
        = vmod s.kitchen.menu i fun it => { it with stock := some (q - unitsOfItem lines i) } :=
      vmod_congr _ _ _ _ (by rw [Item.taken, show s.kitchen.menu[i.val].stock = some q from h]; rfl)
    simp only [takeItem, takenReports, h, hv, postAll_eq]
    rfl

theorem foldl_takeItem (lines : List OrderLine) (n : Nat) (xs : List (Fin 128)) (hx : xs.Nodup) :
    xs.foldl (fun s i => s.takeItem lines n i) s = { s with
      kitchen := { s.kitchen with menu := xs.foldl (fun m i => vmod m i (Item.taken lines i)) s.kitchen.menu }
      link := xs.foldl (fun l i => l.postEach s.book.siteTime (takenReports lines n i s.kitchen.menu[i])) s.link } := by
  induction xs generalizing s with
  | nil => rfl
  | cons x xs ih =>
    obtain ⟨hne, hxs⟩ := List.nodup_cons.1 hx
    rw [List.foldl_cons, ih _ hxs, takeItem_eq]
    have hmenu : ∀ (l : Link), xs.foldl (fun (l : Link) i => l.postEach s.book.siteTime
          (takenReports lines n i (vmod s.kitchen.menu x (Item.taken lines x))[i])) l
        = xs.foldl (fun l i => l.postEach s.book.siteTime (takenReports lines n i s.kitchen.menu[i])) l := fun l =>
      List.foldl_ext _ _ _ fun l i hi => by
        have hix : i ≠ x := fun e => hne (e ▸ hi)
        rw [vmod_at_ne _ _ hix]
    simp only [List.foldl_cons, hmenu]

theorem nodup_allItems : allItems.Nodup := List.nodup_finRange 128

/-- The stock that an order takes, and its reports in ascending item number (R143, R157). -/
theorem takeStock_eq (lines : List OrderLine) (n : Nat) : s.takeStock lines n = { s with
    kitchen := { s.kitchen with
      menu := (allItems.filter fun i => lines.any (·.item == i)).foldl (fun m i => vmod m i (Item.taken lines i)) s.kitchen.menu }
    link := (allItems.filter fun i => lines.any (·.item == i)).foldl
      (fun l i => l.postEach s.book.siteTime (takenReports lines n i s.kitchen.menu[i])) s.link } :=
  s.foldl_takeItem lines n _ (nodup_allItems.filter _)

/-- An item after an accepted order: its stock less the order's units of it. -/
theorem takeStock_menu (lines : List OrderLine) (n : Nat) (i : Fin 128) :
    (s.takeStock lines n).kitchen.menu[i] = s.kitchen.menu[i].taken lines i := by
  rw [takeStock_eq]
  refine (foldl_vmod_get (fun i => Item.taken lines i) _ (nodup_allItems.filter _) s.kitchen.menu i).trans ?_
  split
  · rfl
  · next h =>
    have hnone : ∀ l ∈ lines, l.item ≠ i := by
      simpa [allItems] using h
    have hz : unitsOfItem lines i = 0 := by
      rw [unitsOfItem, List.filter_eq_nil_iff.2 fun l hl => by simpa using hnone l hl]
      rfl
    exact (Item.taken_of_no_units hz _).symm

end State

/-! ## Tickets -/

/-- The ticket that an order makes for a station (R149, R150). -/
def newTicket (menu : Vector Item 128) (lines : List OrderLine) (order : Nat) (st : Fin 4) (perUnit : Nat) : Ticket :=
  { order := order, station := st, units := unitsOf (linesAt menu lines st)
    prep := ticketPrep menu lines st perUnit, started := none }

/-- A station with an order's ticket at the tail of its queue (R148, R149). -/
def Station.withTicket (menu : Vector Item 128) (clock : Word) (lines : List OrderLine) (order : Nat) (st : Fin 4)
    (x : Station) : Station :=
  { x with queue := appendTicket x.queue (newTicket menu lines order st x.perUnit) clock }

namespace State

variable (s : State)

theorem appendTicketAt_eq (lines : List OrderLine) (n : Nat) (st : Fin 4) : s.appendTicketAt lines n st = { s with
    kitchen := { s.kitchen with
      stations := vmod s.kitchen.stations st (Station.withTicket s.kitchen.menu s.kitchen.clock lines n st) } } := rfl

theorem foldl_appendTicketAt (lines : List OrderLine) (n : Nat) (xs : List (Fin 4)) :
    xs.foldl (fun s st => s.appendTicketAt lines n st) s = { s with
      kitchen := { s.kitchen with
        stations := xs.foldl (fun v st => vmod v st (Station.withTicket s.kitchen.menu s.kitchen.clock lines n st))
          s.kitchen.stations } } := by
  induction xs generalizing s with
  | nil => rfl
  | cons x xs ih => rw [List.foldl_cons, ih, appendTicketAt_eq]; rfl

end State

theorem nodup_stationsOf (menu : Vector Item 128) (lines : List OrderLine) : (stationsOf menu lines).Nodup :=
  List.Nodup.filter _ (by decide)

/-- One ticket at the tail of each station that the order uses (R149). -/
theorem State.appendTickets_station (s : State) (lines : List OrderLine) (n : Nat) (st : Fin 4) :
    (s.appendTickets lines n).kitchen.stations[st] = if st ∈ stationsOf s.kitchen.menu lines then
      s.kitchen.stations[st].withTicket s.kitchen.menu s.kitchen.clock lines n st else s.kitchen.stations[st] := by
  rw [State.appendTickets, State.foldl_appendTicketAt]
  exact foldl_vmod_get _ _ (nodup_stationsOf _ _) _ st

theorem length_appendTicket (queue : List Ticket) (x : Ticket) (clock : Word) :
    (appendTicket queue x clock).length = queue.length + 1 := by
  cases queue <;> simp [appendTicket]

/-- Items that stand at the same stations give an order the same stations. -/
theorem stationsOf_congr {menu menu' : Vector Item 128} (h : ∀ i : Fin 128, menu'[i].station = menu[i].station)
    (lines : List OrderLine) : stationsOf menu' lines = stationsOf menu lines := by
  simp only [stationsOf, h]

/-! ## The order table -/

theorem insertOrder_perm (o : Order) (orders : List Order) : (insertOrder o orders).Perm (o :: orders) := by
  induction orders with
  | nil => exact .refl _
  | cons p rest ih =>
    simp only [insertOrder]
    split
    · exact .refl _
    · exact (ih.cons p).trans (.swap o p rest)

theorem ordersRise_insertOrder {o : Order} {orders : List Order} (h : ordersRise orders) (ho : 1 ≤ o.number ∧ o.number ≤ 65535)
    (hnew : ∀ p ∈ orders, p.number ≠ o.number) : ordersRise (insertOrder o orders) := by
  refine ⟨List.pairwise_map.2 ?_, fun p hp => ?_⟩
  · have hp := List.pairwise_map.1 h.1
    clear h
    induction orders with
    | nil => exact List.pairwise_singleton _ _
    | cons e rest ih =>
      obtain ⟨he, hrest⟩ := List.pairwise_cons.1 hp
      simp only [insertOrder]
      split
      · next hlt =>
        refine List.pairwise_cons.2 ⟨fun p hm => ?_, hp⟩
        rcases List.mem_cons.1 hm with rfl | hm
        · exact hlt
        · exact Nat.lt_trans hlt (he p hm)
      · next hnlt =>
        refine List.pairwise_cons.2 ⟨fun p hm => ?_, ih (fun p hm => hnew p (List.mem_cons_of_mem _ hm)) hrest⟩
        rcases List.mem_cons.1 ((insertOrder_perm o rest).mem_iff.1 hm) with rfl | hm
        · have := hnew e List.mem_cons_self
          omega
        · exact he p hm
  · rcases List.mem_cons.1 ((insertOrder_perm o orders).mem_iff.1 hp) with rfl | hp
    · exact ho
    · exact h.2 p hp

/-- The next order number is in range and no live order has it (R161). -/
theorem nextOrder_fresh {u : OrderUnit} (h1 : 1 ≤ u.counter) (h2 : u.counter ≤ 65535) (hl : u.table.length ≤ 128) :
    (1 ≤ u.nextOrder ∧ u.nextOrder ≤ 65535) ∧ ∀ o ∈ u.table, o.number ≠ u.nextOrder := by
  have hlive : u.liveNumbers.length < 65535 := by
    rw [OrderUnit.liveNumbers, List.length_map]
    omega
  refine ⟨pickNumber_range h1 h2 _, fun o ho e => (pickNumber_spec h1 h2 hlive).1 ?_⟩
  exact (show pickNumber _ _ _ = o.number from e.symm) ▸ List.mem_map_of_mem ho

namespace State

variable (s : State)

/-- What R163 checks of the places an order needs. -/
structure HasPlaces (lines : List OrderLine) : Prop where
  table : s.orders.table.length < 128
  stations : ∀ st ∈ stationsOf s.kitchen.menu lines, s.kitchen.stations[st].queue.length < 24

theorem takeStock_stations (lines : List OrderLine) (n : Nat) :
    (s.takeStock lines n).kitchen.stations = s.kitchen.stations := by
  rw [takeStock_eq]

theorem takeStock_stationsOf (lines : List OrderLine) (n : Nat) :
    stationsOf (s.takeStock lines n).kitchen.menu lines = stationsOf s.kitchen.menu lines :=
  stationsOf_congr (fun i => by rw [takeStock_menu]; rfl) lines

theorem appendTickets_quiet (lines : List OrderLine) (n : Nat)
    (h : ∀ st ∈ stationsOf s.kitchen.menu lines, s.kitchen.stations[st].queue.length < 24) :
    Quiet s (s.appendTickets lines n) := by
  have hst := s.appendTickets_station lines n
  rw [appendTickets, foldl_appendTicketAt] at hst ⊢
  refine .of ⟨fun _ => id, fun ⟨hq, hl, hk, hrest⟩ => ⟨hq, hl, fun st => ?_, hrest⟩, id, id, id⟩
  rw [hst]
  split
  · next hm =>
    rw [Station.withTicket, length_appendTicket]
    exact h st hm
  · exact hk st

/-- An order that finds its places is taken at a number that no live order has (R161, R165). -/
theorem takeOrder_quiet (c : Car) {lines : List OrderLine} (h : s.HasPlaces lines) : Quiet s (s.takeOrder c lines) := by
  have h1 := (s.takeStock_quiet lines s.orders.nextOrder).trans (appendTickets_quiet _ lines s.orders.nextOrder (by
    rw [takeStock_stationsOf, takeStock_stations]
    exact h.stations))
  have ho : ((s.takeStock lines s.orders.nextOrder).appendTickets lines s.orders.nextOrder).orders = s.orders := by
    rw [appendTickets, foldl_appendTicketAt, takeStock_eq]
  unfold takeOrder
  dsimp only
  generalize (s.takeStock lines s.orders.nextOrder).appendTickets lines s.orders.nextOrder = u at h1 ho
  refine h1.trans ((Quiet.trans (b := u.updOrders _) ?_ (updCar_quiet _ c.tag _)).trans (count_quiet _ _ _ _))
  refine .of ⟨fun _ => id, fun ⟨hq, hl, hk, hr, hlo, hhi⟩ => ?_, id, id, id⟩
  obtain ⟨hrange, hnew⟩ := nextOrder_fresh hlo hhi hl
  rw [ho] at hr hnew hrange
  refine ⟨hq, ?_, hk, ?_, nextNumber_range _⟩
  · rw [updOrders_orders, ho, (insertOrder_perm _ _).length_eq]
    exact h.table
  · rw [updOrders_orders, ho]
    exact ordersRise_insertOrder hr hrange hnew

end State

end Sys2Proof.Machine
end

section
/-! Every request keeps the invariants, by its owning rule. -/

namespace Sys2Proof.Machine

theorem Stays.of_eq {s t : State} (h : t = s) : Stays s t := by rw [h]; exact .refl s

/-- The settings of SET_CHANNEL are clamped into their ranges (R46). -/
theorem Channel.ok_withSettings {c : Channel} (h : c.ok) (d t l r g : Half) : (c.withSettings d t l r g).ok := by
  obtain ⟨-, -, -, -, -, -, hin, hw, hring, hduck, -⟩ := h
  have hclamp : ∀ low high n : Nat, low ≤ high → low ≤ clamp low high n ∧ clamp low high n ≤ high :=
    fun _ _ _ h => ⟨Nat.le_max_left _ _, Nat.max_le.2 ⟨h, Nat.min_le_left _ _⟩⟩
  exact ⟨(hclamp _ _ _ (by decide)).2, (hclamp _ _ _ (by decide)).2, (hclamp _ _ _ (by decide)).2,
    (hclamp _ _ _ (by decide)).1, (hclamp _ _ _ (by decide)).2, (hclamp _ _ _ (by decide)).2, hin, hw, hring, hduck, rfl⟩

namespace State

variable (s : State)

/-! ## Lanes and cars -/

theorem updLane_quiet (i : Fin 8) (f : Lane → Lane) (hm : (f s.lanes[i]).mode = s.lanes[i].mode := by rfl)
    (hp : (f s.lanes[i]).pending = s.lanes[i].pending := by rfl)
    (hb : (f s.lanes[i]).barrierUp = s.lanes[i].barrierUp := by rfl) : Quiet s (s.updLane i f) := by
  refine ⟨s.updLane_keeps i f fun h => ?_, .of, ⟨fun l => ?_, rfl⟩⟩
  · unfold Lane.barrierOk at h ⊢
    rwa [hm, hp, hb]
  · by_cases e : l = i
    · subst e; rw [updLane_lanes, vmod_at, hp]
    · rw [updLane_lanes, vmod_at_ne _ _ e]

theorem complete_stays {i : Fin 8} {p : Admission} (hi : s.lanes[i].pending = some p) : Stays s (s.complete i p) :=
  .of_sameShows (s.complete_keeps i p) (fun hc => s.complete_admissions hi hc.1) (s.complete_sameShows i p)

theorem endAdmission_stays {i : Fin 8} {p : Admission} (why : AdmissionEnd) (hi : s.lanes[i].pending = some p) :
    Stays s (s.endAdmission i p why) :=
  .of_sameShows (s.endAdmission_keeps i p why) (fun hc => s.endAdmission_admissions why hi hc.1)
    (s.endAdmission_sameShows i p why)

theorem countAttributed_quiet (a : Option Attribution) (f : Counts → Counts) : Quiet s (s.countAttributed a f) := by
  cases a with
  | none => exact .refl s
  | some a => exact s.count_quiet _ _ _

theorem passage_stays (i : Fin 8) (p : Passage) : Stays s (s.passage i p) := by
  unfold passage
  split
  · split
    · next h => exact s.complete_stays h
    · exact ((s.countAttributed_quiet _ _).trans (post_quiet _ _ _)).stays
  · exact ((s.countAttributed_quiet _ _).trans (post_quiet _ _ _)).stays
  · exact (s.post_quiet _ _).stays
  · exact (s.post_quiet _ _).stays
  · exact .refl s

theorem loopExpiry_stays (i : Fin 8) (loop : Loop) : Stays s (s.loopExpiry i loop) := by
  have hl : ∀ d, Quiet s (s.updLane i fun _ => { s.lanes[i].debounced loop with direction := d }) := fun d => by
    cases loop <;> exact s.updLane_quiet i _
  unfold loopExpiry
  dsimp only
  split
  · cases loop <;> exact (s.updLane_quiet i _).stays
  · split
    · exact (hl _).stays
    · exact (hl _).stays.trans (passage_stays _ i _)

theorem expireAdmission_stays {i : Fin 8} {p : Admission} (hi : s.lanes[i].pending = some p) :
    Stays s (s.expireAdmission i p) := by
  refine (s.count_quiet _ _ _).stays.trans (endAdmission_stays _ _ ?_)
  rw [count_lanes]
  exact hi

theorem acceptAdmit_stays {i : Fin 8} {tag : Nat} {screen : Fin 6} (h : s.Admits i tag screen) (r : Fin 16) (n : Nat) :
    Stays s (s.acceptAdmit i tag screen r n) :=
  .of_sameShows (s.acceptAdmit_keeps h r n) (fun _ => s.acceptAdmit_admissions h r n) .of

theorem findCar_none {s : State} {tag : Nat} (h : ¬ (s.findCar tag).isSome = true) : ∀ c ∈ s.cars, c.tag ≠ tag := by
  rw [Option.not_isSome_iff_eq_none, findCar, List.find?_eq_none] at h
  exact fun c hc e => h c hc (beq_iff_eq.2 e)

theorem findCar_some {s : State} {tag : Nat} {c : Car} (h : s.findCar tag = some c) : c ∈ s.cars ∧ c.tag = tag :=
  ⟨List.mem_of_find?_eq_some h, beq_iff_eq.1 (List.find?_some (p := fun d : Car => d.tag == tag) h)⟩

theorem halfRange {x : Half} (h : x ≠ 0) : 1 ≤ x.toNat ∧ x.toNat ≤ 65535 :=
  ⟨Nat.pos_of_ne_zero fun e => h (BitVec.eq_of_toNat_eq e), Nat.le_of_lt_succ x.isLt⟩

theorem admitCarEffect_stays (lane : Byte) (carTag : Half) (screen occupants : Byte) :
    Stays s (admitCarEffect lane carTag screen occupants s).1 := by
  unfold admitCarEffect
  split
  · split
    · exact .refl s
    · next hrange =>
      split
      · exact .refl s
      · next hmode =>
        split
        · exact .refl s
        · next hpending =>
          split
          · exact .refl s
          · split
            · exact .refl s
            · next hfind =>
              split
              · exact .refl s
              · next hroom =>
                refine s.acceptAdmit_stays ⟨halfRange fun e => hrange (.inl e), not_not.1 hmode, ?_, findCar_none hfind,
                  Nat.not_le.1 hroom⟩ _ _
                exact Option.not_isSome_iff_eq_none.1 hpending
  · exact .refl s

theorem cancelAdmitEffect_stays (lane : Byte) : Stays s (cancelAdmitEffect lane s).1 := by
  unfold cancelAdmitEffect
  split
  · exact .refl s
  · split
    · exact .refl s
    · next h => exact s.endAdmission_stays _ h

theorem setLaneEffect_stays (lane mode : Byte) (debounce timeout : Half) :
    Stays s (setLaneEffect lane mode debounce timeout s).1 := by
  unfold setLaneEffect
  split
  · next i m _ _ =>
    split
    · exact .refl s
    · next hfree =>
      refine .of_sameGate (s.updLane_keeps i _ fun h => ⟨h.1, fun hp => ?_⟩) ⟨fun l => ?_, rfl⟩ (SameShows.of).showsOk
      · exact (not_not.1 fun hne => hfree ⟨hp, hne⟩).trans (h.2 hp)
      · by_cases e : l = i
        · subst e; dsimp only; rw [updLane_lanes, vmod_at]; rfl
        · dsimp only; rw [updLane_lanes, vmod_at_ne _ _ e]
  · exact .refl s

/-- A car on the lot leaves; no lane waits for it, since tags are distinct (R116). -/
theorem releaseCar_stays {c : Car} (hc : c ∈ s.cars) (hon : c.state ≠ .pending) : Stays s (s.releaseCar c.tag) := by
  refine .of_sameShows (s.releaseCar_keeps _) (fun hok ha => s.releaseCar_admissions _ (fun l p hp ht => ?_) ha)
    (s.releaseCar_sameShows _)
  obtain ⟨d, hd, hdt, -, -, hdp, -⟩ := hp
  rw [hok.1.eq_of_tag hc hd (hdt.trans ht).symm] at hon
  exact hon hdp

theorem checkoutEffect_stays (carTag : Half) : Stays s (checkoutEffect carTag s).1 := by
  unfold checkoutEffect
  split
  · exact .refl s
  · split
    · exact .refl s
    · next h =>
      split
      · exact .refl s
      · next hon => exact s.releaseCar_stays (findCar_some h).1 hon

theorem capacityOf_le (h : Half) : capacityOf h ≤ 500 := Nat.min_le_left _ _

theorem mapSix_get {α β : Type} (f : α → β) (v : Six α) (i : Fin 6) : (mapSix f v).get i = f (v.get i) := by
  fin_cases i <;> rfl

theorem setSiteEffect_stays (w : SiteWire) : Stays s (setSiteEffect w s).1 := by
  unfold setSiteEffect
  split
  · exact .refl s
  · next ws _ =>
    dsimp only
    split
    · exact .refl s
    · split
      · exact .refl s
      · next hsum =>
        split
        · exact .refl s
        · next hcounts =>
          simp only [List.any_eq_true, decide_eq_true_eq, not_exists, not_and, not_lt] at hcounts
          refine .of_sameGate ⟨fun _ => id, id, id, id, fun hok => ⟨hok.1, fun i => hcounts i (mem_allScreens i), ?_,
            Nat.not_lt.1 hsum⟩⟩ ⟨fun _ => rfl, rfl⟩ (SameShows.of).showsOk
          exact fun i => (mapSix_get _ _ i).trans_le (capacityOf_le _)

/-! ## Screens and cues -/

theorem loadProgramEffect_stays (screen : Byte) (x y : Half) (wires : List SegmentWire) :
    Stays s (loadProgramEffect screen x y wires s).1 := by
  unfold loadProgramEffect
  split
  · exact .refl s
  · split
    · exact .refl s
    · split
      · exact .refl s
      · split
        · exact .refl s
        · exact s.updScreen_stays_of_state

theorem loadCuesEffect_stays (screen : Byte) (entries : List CueWire) : Stays s (loadCuesEffect screen entries s).1 := by
  unfold loadCuesEffect
  split
  · exact .refl s
  · split
    · exact .refl s
    · split
      · exact .refl s
      · split
        · exact .refl s
        · exact (s.updCue_quiet _ _).stays

theorem strikeEffect_stays (screen : Byte) : Stays s (strikeEffect screen s).1 := by
  unfold strikeEffect
  split
  · exact .refl s
  · split
    · exact .refl s
    iterate 5 exact .refl s
    · next hdark =>
      split
      · exact .refl s
      · next h => exact s.acceptStrike_stays hdark (s.freeRecord_free h)

theorem goEffect_stays (screen start autoClose : Byte) : Stays s (goEffect screen start autoClose s).1 := by
  unfold goEffect
  split
  · exact .refl s
  · split
    · exact .refl s
    · split
      · exact .refl s
      · next hready =>
        split
        · exact .refl s
        · split
          · exact .refl s
          · split
            · exact .refl s
            · exact s.acceptGo_stays _ _ (not_not.1 hready)

theorem holdEffect_stays (screen : Byte) : Stays s (holdEffect screen s).1 := by
  unfold holdEffect
  split
  · exact .refl s
  · split
    · next h => exact s.withPolicyNotice_stays (f := fun s => s.holdScreen _ _ _) (s.holdScreen_stays _ _ h)
    all_goals exact .refl s

theorem resumeScreen_stays {i : Fin 6} (p : Position) (h : s.screens[i].state = .holding) : Stays s (s.resumeScreen i p) := by
  refine s.withPolicyNotice_stays ?_
  split
  · exact s.moveOn_stays p _ h
  · exact s.runScreen_stays _ (.inr h)

theorem resumeEffect_stays (screen : Byte) : Stays s (resumeEffect screen s).1 := by
  unfold resumeEffect
  split
  · exact .refl s
  · split
    · next h _ => exact s.resumeScreen_stays _ h
    · exact .refl s

theorem skipRunning_stays {i : Fin 6} (p : Position) (h : s.screens[i].state = .running) : Stays s (s.skipRunning i p) := by
  refine s.withPolicyNotice_stays ?_
  split
  · exact (s.updScreen_stays_of_state).trans (startSegment_stays _ i _)
  · exact s.endProgram_stays (.inl h)

theorem skipEffect_stays (screen : Byte) : Stays s (skipEffect screen s).1 := by
  unfold skipEffect
  split
  · exact .refl s
  · split
    · next h _ => exact s.skipRunning_stays _ h
    · next h _ => exact s.withPolicyNotice_stays (f := fun s => s.moveOn _ _ _) (s.moveOn_stays _ _ h)
    · exact .refl s

theorem stopEffect_stays (screen : Byte) : Stays s (stopEffect screen s).1 := by
  unfold stopEffect
  split
  · exact .refl s
  · next i _ =>
    have hclose : s.screens[i].state ≠ .strikeWait → Stays s (s.withPolicyNotice i fun s => s.enterClosing i .stop) :=
      fun h => s.withPolicyNotice_stays (f := fun s => s.enterClosing i .stop) (s.enterClosing_stays _ h)
    have hwait : Stays s (s.stopWaiting i) := s.stopWaiting_stays i
    split <;> dsimp only
    · exact hwait
    · next h => exact (hclose (by rw [h]; decide)).trans (examine_stays _)
    · next h => exact hclose (by rw [h]; decide)
    · next h => exact hclose (by rw [h]; decide)
    · next h => exact hclose (by rw [h]; decide)
    · exact .refl s
    · exact .refl s

/-! ## Sound -/

theorem setChannelEffect_stays (channel : Byte) (d t l r g : Half) : Stays s (setChannelEffect channel d t l r g s).1 := by
  unfold setChannelEffect
  split
  · exact .refl s
  · exact (s.putChannel_quiet _ _ fun h => Channel.ok_withSettings h d t l r g).stays

theorem getChannelEffect_stays (channel : Byte) : Stays s (getChannelEffect channel s).1 := by
  unfold getChannelEffect
  split
  · exact .refl s
  · exact (s.updChannel_quiet _ _ id).stays

theorem announceEffect_stays (clip priority targets : Byte) : Stays s (announceEffect clip priority targets s).1 := by
  unfold announceEffect
  split
  · exact .refl s
  · split
    · next heq =>
      have h := s.enqueue_quiet .operator priority.toNat (targetsOf targets) clip.toNat none none
      rw [heq] at h
      exact h.stays
    · exact .refl s

theorem cancelAnnounceEffect_stays (entry : Half) : Stays s (cancelAnnounceEffect entry s).1 := by
  have hq := s.updAnnounce_quiet (fun a => { a with queue := a.queue.eraseP (·.number == entry.toNat) })
    ((List.length_eraseP_le ..).trans ·)
  have hair : ∀ air : Option OnAir, Quiet s (match air with
      | some r => (s.updAnnounce fun a => { a with queue := a.queue.eraseP (·.number == entry.toNat) }).cancelOnAir r
      | none => s.updAnnounce fun a => { a with queue := a.queue.eraseP (·.number == entry.toNat) }) := fun air => by
    cases air with
    | none => exact hq
    | some r => exact hq.trans (cancelOnAir_quiet _ r)
  unfold cancelAnnounceEffect
  split
  · exact .refl s
  · exact .refl s
  all_goals
    dsimp only
    split
    · exact ((hair _).trans (hand_quiet _ _)).stays
    · exact (hair _).stays

/-! ## The count book -/

/-- A record that is OPEN neither before nor after belongs to no show. -/
theorem updRecord_stays {r : Fin 16} {f : CountRecord → CountRecord} (hb : s.book.records[r].state ≠ .opened)
    (ha : (f s.book.records[r]).state ≠ .opened) : Stays s (s.updRecord r f) := by
  refine .of_sameGate (s.book_keeps _) ⟨fun _ => rfl, rfl⟩ fun hs hp => ?_
  obtain ⟨hstrike, hshow, hbound⟩ := hs hp
  refine ⟨hstrike, hshow, fun i q => (hbound i q).trans ?_⟩
  by_cases e : q = r
  · subst e
    rw [updRecord_book, vmod_at]
    exact ⟨fun h => absurd h.1 hb, fun h => absurd h.1 ha⟩
  · rw [updRecord_book, vmod_at_ne _ _ e]

theorem releaseCountEffect_stays (record : Byte) : Stays s (releaseCountEffect record s).1 := by
  unfold releaseCountEffect
  split
  · exact .refl s
  · split
    · exact .refl s
    · split
      · next h => exact s.updRecord_stays (by rw [h]; decide) (by decide)
      · exact .refl s

theorem setCountPolicyEffect_stays (policy : Byte) : Stays s (setCountPolicyEffect policy s).1 := by
  unfold setCountPolicyEffect
  split
  · exact .refl s
  · split
    · exact (Quiet.of (s.book_keeps _)).stays
    · exact .refl s

theorem setTimeEffect_stays (time : Word) : Stays s (setTimeEffect time s).1 := (Quiet.of (s.book_keeps _)).stays

/-! ## The kitchen and orders -/

theorem menu_quiet (menu : Vector Item 128) : Quiet s { s with kitchen := { s.kitchen with menu := menu } } :=
  .of ⟨fun _ => id, id, id, id, id⟩

theorem loadMenuEffect_stays (start : Byte) (items : List ItemWire) : Stays s (loadMenuEffect start items s).1 := by
  unfold loadMenuEffect
  split
  · exact .refl s
  · split
    · exact .refl s
    · exact (s.menu_quiet _).stays

theorem setStockEffect_stays (item tracked : Byte) (stock low : Half) :
    Stays s (setStockEffect item tracked stock low s).1 := by
  unfold setStockEffect
  split
  · exact .refl s
  · split
    · exact .refl s
    · exact (s.updItem_quiet _ _).stays

theorem setStationEffect_stays (station opened : Byte) (perUnit : Half) :
    Stays s (setStationEffect station opened perUnit s).1 := by
  unfold setStationEffect
  split
  · exact .refl s
  · exact (s.updStation_quiet _ _ id).stays

/-- An order that passes the checks finds room in the order table and on its stations (R163). -/
theorem HasPlaces.of_not_refused {s : State} {c : Car} {lines : List OrderLine} (h : s.orderRefusal c lines = none) :
    s.HasPlaces lines := by
  unfold orderRefusal at h
  dsimp only at h
  split at h
  · cases h
  · split at h
    · cases h
    · split at h
      · cases h
      · split at h
        · cases h
        · split at h
          · cases h
          · split at h
            · cases h
            · next htable =>
              split at h
              · cases h
              · next hfind =>
                refine ⟨Nat.not_le.1 htable, fun st hst => ?_⟩
                have := List.find?_eq_none.1 hfind st hst
                exact Nat.not_le.1 fun hle => this (decide_eq_true hle)

theorem orderEffect_stays (carTag : Half) (wires : List LineWire) : Stays s (orderEffect carTag wires s).1 := by
  unfold orderEffect
  split
  · exact .refl s
  · split
    · exact .refl s
    · split
      · exact .refl s
      · split
        · exact .refl s
        · split
          · exact .refl s
          · next h => exact (s.takeOrder_quiet _ (.of_not_refused h)).stays

theorem pickupEffect_stays (number : Half) : Stays s (pickupEffect number s).1 := by
  unfold pickupEffect
  split
  · exact .refl s
  · split
    · exact .refl s
    · split
      · exact (s.pickOrder_quiet _).stays
      · exact .refl s

theorem cancelOrderEffect_stays (number : Half) : Stays s (cancelOrderEffect number s).1 := by
  unfold cancelOrderEffect
  split
  · exact .refl s
  · split
    · exact .refl s
    · exact (s.cancelOrder_quiet _).stays

/-! ## Queries -/

theorem getScreenEffect_same (screen : Byte) : (getScreenEffect screen s).1 = s := by unfold getScreenEffect; split <;> rfl
theorem getLaneEffect_same (lane : Byte) : (getLaneEffect lane s).1 = s := by unfold getLaneEffect; split <;> rfl
theorem readCountEffect_same (r : Byte) : (readCountEffect r s).1 = s := by unfold readCountEffect; split <;> rfl

theorem getCarEffect_same (tag : Half) : (getCarEffect tag s).1 = s := by
  unfold getCarEffect
  split
  · rfl
  · split <;> rfl

theorem getOrderEffect_same (n tag : Half) : (getOrderEffect n tag s).1 = s := by
  unfold getOrderEffect
  split
  · rfl
  · split
    · split <;> rfl
    · rfl

/-! ## All requests -/

theorem siteResetEffect_stays : Stays s (siteResetEffect s).1 :=
  (Quiet.of (s := s) (t := s.updLink fun l => { l with resetTaken := true }) ⟨fun _ => id, id, id, id, id⟩).stays

/-- The effect of every request keeps every invariant. -/
theorem requestEffect_stays (r : Request) : Stays s (requestEffect r s).1 := by
  cases r with
  | identify => exact .refl s
  | getStatus => exact .refl s
  | getAnnounce => exact .refl s
  | getScreen c => exact .of_eq (s.getScreenEffect_same c)
  | getLane l => exact .of_eq (s.getLaneEffect_same l)
  | readCount r => exact .of_eq (s.readCountEffect_same r)
  | getCar t => exact .of_eq (s.getCarEffect_same t)
  | getOrder n t => exact .of_eq (s.getOrderEffect_same n t)
  | siteReset => exact s.siteResetEffect_stays
  | setTime t => exact s.setTimeEffect_stays t
  | setSite w => exact s.setSiteEffect_stays w
  | loadProgram c t d gs => exact s.loadProgramEffect_stays c t d gs
  | loadCues c es => exact s.loadCuesEffect_stays c es
  | strike c => exact s.strikeEffect_stays c
  | go c g a => exact s.goEffect_stays c g a
  | hold c => exact s.holdEffect_stays c
  | resume c => exact s.resumeEffect_stays c
  | skip c => exact s.skipEffect_stays c
  | stop c => exact s.stopEffect_stays c
  | setChannel c d t l r g => exact s.setChannelEffect_stays c d t l r g
  | getChannel c => exact s.getChannelEffect_stays c
  | announce c p t => exact s.announceEffect_stays c p t
  | cancelAnnounce e => exact s.cancelAnnounceEffect_stays e
  | setLane l m d t => exact s.setLaneEffect_stays l m d t
  | admitCar l t c o => exact s.admitCarEffect_stays l t c o
  | cancelAdmit l => exact s.cancelAdmitEffect_stays l
  | checkout t => exact s.checkoutEffect_stays t
  | releaseCount r => exact s.releaseCountEffect_stays r
  | setCountPolicy p => exact s.setCountPolicyEffect_stays p
  | loadMenu i is => exact s.loadMenuEffect_stays i is
  | setStock i t k l => exact s.setStockEffect_stays i t k l
  | setStation t o p => exact s.setStationEffect_stays t o p
  | order t ls => exact s.orderEffect_stays t ls
  | cancelOrder n => exact s.cancelOrderEffect_stays n
  | pickup n => exact s.pickupEffect_stays n

end State

end Sys2Proof.Machine
end

section
/-! A step of the part keeps its invariants (O56 to O59): the link's service, the events, the starts and the idle step. -/

namespace Sys2Proof.Machine

/-- Each invariant of the part that holds before holds after. -/
structure Held (s t : State) : Prop where
  link : s.link.bounded → t.link.bounded
  queues : s.queuesOk → t.queuesOk
  channels : s.channelsOk → t.channelsOk
  barriers : s.barriersOk → t.barriersOk
  cars : s.carsOk → t.carsOk
  admissions : s.carsOk → s.admissionsOk → t.admissionsOk
  shows : s.showsOk → t.showsOk

namespace Held

theorem refl (s : State) : Held s s := ⟨id, id, id, id, id, fun _ => id, id⟩

theorem trans {a b c : State} (h : Held a b) (k : Held b c) : Held a c :=
  ⟨k.link ∘ h.link, k.queues ∘ h.queues, k.channels ∘ h.channels, k.barriers ∘ h.barriers, k.cars ∘ h.cars,
    fun hc ha => k.admissions (h.cars hc) (h.admissions hc ha), k.shows ∘ h.shows⟩

end Held

theorem Stays.held {s t : State} (h : Stays s t) : Held s t :=
  ⟨h.link { frames := 4, replies := 8 }, h.queues, h.channels, h.barriers, h.cars, h.admissions, h.shows⟩

theorem Quiet.held {s t : State} (h : Quiet s t) : Held s t := h.stays.held

namespace State

variable (s : State)

/-! ## The service -/

/-- A change of the link after an event, which the link's own places allow. -/
theorem updLink_held {u : State} {f : Link → Link} (h : Stays s u) (hl : s.link.bounded → (f u.link).bounded) :
    Held s (u.updLink f) :=
  ⟨hl, h.queues, h.channels, h.barriers, h.cars, h.admissions, h.shows⟩

theorem ifPowered_held {f : State → State} (h : Held s (f s)) : Held s (s.ifPowered f) := by
  unfold ifPowered
  split
  · exact h
  · exact .refl s

/-- A link whose service may take a frame has room for the reply (R186, R187). -/
theorem within_of_serves {l : Link} (h : l.serves = true) (hl : l.bounded) : l.within { frames := 4, replies := 7 } := by
  rw [Link.serves, Bool.and_eq_true, decide_eq_true_eq] at h
  exact ⟨hl.1, (Nat.le_of_lt h.1).trans (by decide), hl.2.2⟩

theorem take_held (tag : Byte) (r : Request) (h : s.link.serves = true) : Held s (s.take tag r) := by
  have hr := s.requestEffect_stays r
  exact s.updLink_held hr fun hl => Link.within_postReply (hr.link { frames := 4, replies := 7 } (within_of_serves h hl)) _

theorem refuseFrame_held (tag kind : Byte) (result : Result) (h : s.link.serves = true) :
    Held s (s.refuseFrame tag kind result) :=
  s.updLink_held (.refl s) fun hl => Link.within_postReply (within_of_serves h hl) _

theorem takeFrame_held (f : RxFrame) (h : s.link.serves = true) : Held s (s.takeFrame f) := by
  unfold takeFrame
  split
  · exact s.refuseFrame_held _ _ _ h
  · split
    · exact s.refuseFrame_held _ _ _ h
    · exact s.refuseFrame_held _ _ _ h
    · exact s.take_held _ _ h

theorem serviceLoop_held (fuel : Nat) : ∀ s, Held s (State.serviceLoop fuel s) := by
  induction fuel with
  | zero => exact .refl
  | succ fuel ih =>
    intro s
    unfold serviceLoop
    split
    · exact .refl s
    · next rest hrx =>
      split
      · next hserves =>
        have hpop : Held s (s.updLink fun l => { l with received := rest }) := by
          refine s.updLink_held (.refl s) fun ⟨h1, h2, h3⟩ => ⟨?_, h2, h3⟩
          rw [hrx] at h1
          exact Nat.le_of_succ_le h1
        exact (hpop.trans (takeFrame_held _ _ hserves)).trans (ih _)
      · exact .refl s

theorem service_held : Held s s.service := serviceLoop_held _ s

theorem replyAtOnce_held (r : Reply) : Held s (s.replyAtOnce r) := by
  refine (s.updLink_held (.refl s) fun hl => ?_).trans (service_held _)
  unfold Link.postImmediate
  split
  · next h => exact Link.within_postReply (k := { frames := 4, replies := 7 }) ⟨hl.1, Nat.le_of_lt_succ h, hl.2.2⟩ _
  · exact hl

theorem offer_held (f : RxFrame) : Held s (s.offer f) := by
  unfold offer
  split
  · next h =>
    refine (s.updLink_held (.refl s) fun ⟨_, h2, h3⟩ => ⟨?_, h2, h3⟩).trans (service_held _)
    rw [List.length_append]
    exact h
  · exact s.replyAtOnce_held _

theorem request_held (tag : Byte) (r : Request) : Held s (s.request tag r) := by
  refine s.ifPowered_held ?_
  split
  · next h =>
    rw [Bool.and_eq_true] at h
    split
    · exact s.refuseFrame_held _ _ _ h.2
    · split
      · exact s.take_held _ _ h.2
      · exact s.refuseFrame_held _ _ _ h.2
  · exact s.offer_held _

/-! ## The receiver and the arbiter -/

theorem hunt_held : Held s (s.updLink Link.hunt) := s.updLink_held (.refl s) id

theorem judge_held (bytes : List Byte) : Held s (s.judge bytes) := by
  unfold judge
  split
  · split
    · exact s.offer_held _
    · exact .refl s
  · exact s.replyAtOnce_held _

theorem frameByte_held (bytes : List Byte) : Held s (s.frameByte bytes) := by
  unfold frameByte
  split
  · exact s.hunt_held.trans (replyAtOnce_held _ _)
  · split
    · exact s.hunt_held.trans (judge_held _ _)
    · exact s.updLink_held (.refl s) id

theorem nextFrame_held : Held s s.nextFrame := by
  have h : Held s (s.updLink fun l => { l with sending := none }.startIfIdle) :=
    s.updLink_held (.refl s) fun hl => Link.within_startIfIdle (k := { frames := 4, replies := 8 }) hl
  unfold nextFrame
  dsimp only
  split
  · exact h
  · exact h.trans (service_held _)

/-! ## Starts -/

/-- Every invariant holds. -/
def Sound : Prop :=
  s.link.bounded ∧ s.queuesOk ∧ s.channelsOk ∧ s.barriersOk ∧ s.carsOk ∧ s.admissionsOk ∧ s.showsOk

theorem Sound.held {s t : State} (h : t.Sound) : Held s t := by
  obtain ⟨hl, hq, hch, hb, hc, ha, hs⟩ := h
  exact ⟨fun _ => hl, fun _ => hq, fun _ => hch, fun _ => hb, fun _ => hc, fun _ _ => ha, fun _ => hs⟩

theorem Sound.of_quiet {s t : State} (h : s.Sound) (q : Quiet s t) : t.Sound := by
  obtain ⟨hl, hq, hch, hb, hc, ha, hs⟩ := h
  have k := q.held
  exact ⟨k.link hl, k.queues hq, k.channels hch, k.barriers hb, k.cars hc, k.admissions hc ha, k.shows hs⟩

/-- The blocks that the invariants read stand at their reset values, and no record is OPEN. -/
structure AtReset : Prop where
  link : s.link.received = [] ∧ s.link.replies = [] ∧ s.link.reports = []
  announce : s.announce.queue = []
  orders : s.orders.table = [] ∧ s.orders.counter = 1
  stations : ∀ st : Fin 4, s.kitchen.stations[st].queue = []
  channels : ∀ i : Fin 6, s.channels[i] = .reset
  lanes : ∀ i : Fin 8, s.lanes[i].pending = none ∧ s.lanes[i].barrierUp = false
  cars : s.cars = []
  site : s.site = .reset
  strikeQueue : s.strikeQueue = []
  screens : ∀ i : Fin 6, s.screens[i] = .reset
  records : ∀ r : Fin 16, s.book.records[r].state ≠ .opened

/-- The reset values have every invariant (R25, R57, R106). -/
theorem AtReset.sound {s : State} (h : s.AtReset) : s.Sound := by
  obtain ⟨⟨hrx, hrep, hrpt⟩, hann, ⟨htable, hcounter⟩, hst, hch, hlane, hcars, hsite, hqueue, hscreen, hrec⟩ := h
  have hlink : s.link.bounded := by
    rw [Link.bounded, hrx, hrep, hrpt]
    exact ⟨Nat.zero_le _, Nat.zero_le _, Nat.zero_le _⟩
  have hqueues : s.queuesOk := by
    rw [queuesOk, hann, htable, hcounter]
    exact ⟨Nat.zero_le _, Nat.zero_le _, fun st => by rw [hst]; exact Nat.zero_le _, ⟨.nil, nofun⟩, le_rfl, by decide⟩
  have hchannels : s.channelsOk := fun i => by
    rw [hch]
    unfold Channel.ok
    decide
  have hbarriers : s.barriersOk := fun i => by
    rw [Lane.barrierOk, (hlane i).1, (hlane i).2]
    exact ⟨rfl, nofun⟩
  have hcarsOk : s.carsOk := by
    rw [carsOk, hsite]
    exact ⟨by rw [hcars]; exact ⟨.nil, nofun⟩, fun i => by rw [carCount, hcars]; exact Nat.zero_le _, by decide, by decide⟩
  have hadmissions : s.admissionsOk := by
    refine ⟨fun l p hp => ?_, by rw [hcars]; nofun⟩
    rw [(hlane l).1] at hp
    cases hp
  have hstrike : s.strikeOk := by
    refine ⟨by rw [hqueue]; exact .nil, fun i => ?_, fun i j hi => ?_⟩
    · rw [hqueue, hscreen]
      exact ⟨nofun, nofun⟩
    · rw [hscreen] at hi
      cases hi
  have hbound : s.boundOk := by
    refine ⟨fun i => by rw [hscreen]; rfl, fun i r => ?_⟩
    rw [hscreen]
    exact ⟨nofun, fun hr => absurd hr.1 (hrec r)⟩
  exact ⟨hlink, hqueues, hchannels, hbarriers, hcarsOk, hadmissions, fun _ => ⟨hstrike, hbound⟩⟩

theorem resetBlocks_atReset (strap : Bool) (h : ∀ r : Fin 16, s.book.records[r].state ≠ .opened) :
    (s.resetBlocks strap).AtReset where
  link := ⟨rfl, rfl, rfl⟩
  announce := rfl
  orders := ⟨rfl, rfl⟩
  stations st := by simp [resetBlocks, Station.reset]
  channels i := Vector.getElem_replicate i.isLt
  lanes i := by simp [resetBlocks, Lane.reset]
  cars := rfl
  site := rfl
  strikeQueue := rfl
  screens i := Vector.getElem_replicate i.isLt
  records := h

theorem resetBlocks_sound (strap : Bool) (h : ∀ r : Fin 16, s.book.records[r].state ≠ .opened) : (s.resetBlocks strap).Sound :=
  (s.resetBlocks_atReset strap h).sound

theorem reset_atReset : State.reset.AtReset where
  link := ⟨rfl, rfl, rfl⟩
  announce := rfl
  orders := ⟨rfl, rfl⟩
  stations st := by simp [State.reset, Station.reset]
  channels i := Vector.getElem_replicate i.isLt
  lanes i := by simp [State.reset, Lane.reset]
  cars := rfl
  site := rfl
  strikeQueue := rfl
  screens i := Vector.getElem_replicate i.isLt
  records r := by simp [State.reset, CountBook.rebuilt, CountRecord.freed]

theorem interrupt_records (b : CountBook) (r : Fin 16) : b.interrupt.records[r] =
    if b.records[r].state = .opened then b.records[r].close b.siteTime true else b.records[r] :=
  Vector.getElem_map _ r.isLt

theorem interrupt_not_opened (b : CountBook) (r : Fin 16) : b.interrupt.records[r].state ≠ .opened := by
  rw [interrupt_records]
  split
  · nofun
  · assumption

theorem startKept_sound (cause : StartCause) (strap : Bool) : (s.startKept cause strap).Sound :=
  (resetBlocks_sound _ strap (interrupt_not_opened s.book)).of_quiet ((post_quiet _ _ _).trans (postAll_quiet _ _))

theorem startLost_sound (strap : Bool) : (s.startLost strap).Sound := by
  refine (resetBlocks_sound _ strap fun r => ?_).of_quiet (post_quiet _ _ _)
  rw [show CountBook.rebuilt.records[r] = .freed from Vector.getElem_replicate r.isLt]
  nofun

theorem powerOn_held (strap : Bool) : Held s (s.powerOn strap) := by
  refine Sound.held ?_
  unfold powerOn
  split
  · exact s.startKept_sound .powerOn strap
  · exact s.startLost_sound strap

theorem siteReset_held : Held s s.siteReset := (startKept_sound _ _ _).held

end State
end Sys2Proof.Machine
end

section
/-! Every command and the idle step keep the invariants (O56 to O59). -/

namespace Sys2Proof.Machine

/-! ## The tick -/

theorem rampStep_le {gain target step high : Nat} (hg : gain ≤ high) (ht : target ≤ high) :
    rampStep gain target step ≤ high := by
  unfold rampStep
  split
  · exact (Nat.min_le_left _ _).trans ht
  · split
    · exact Nat.max_le.2 ⟨ht, (Nat.sub_le _ _).trans hg⟩
    · exact hg

theorem Channel.target_le {c : Channel} (h : c.duckLevel ≤ 16384) : c.target ≤ Config.unity := by
  unfold Channel.target
  split
  · exact le_rfl
  · exact h

/-- A tick keeps the channel in range and its at-level indication exact (R40). -/
theorem Channel.ok_tick {c : Channel} (h : c.ok) (pathOpen : Bool) (a : Half) : (c.tick pathOpen a).ok := by
  obtain ⟨hdelay, htrim, hlevel, hlo, hhi, hgain, hin, hw, hring, hduck, -⟩ := h
  have hinput : c.afterInput.input.length ≤ Config.inputQueue ∧ c.afterInput = { c with
      input := c.afterInput.input, underrun := c.afterInput.underrun } := by
    unfold Channel.afterInput
    split
    · next hq =>
      rw [hq] at hin
      exact ⟨Nat.le_of_succ_le hin, rfl⟩
    · next hq => exact ⟨hin, rfl⟩
  obtain ⟨hin', heq⟩ := hinput
  unfold Channel.tick
  dsimp only
  rw [heq]
  exact ⟨hdelay, htrim, hlevel, hlo, hhi, hgain, hin', Nat.mod_lt _ (by decide), Ring.write_wf hring hw,
    rampStep_le hduck (Channel.target_le hlevel), rfl⟩

namespace State

variable {s t : State}

/-! ## Screens and cues -/

theorem framePulse_held {i : Fin 6} (h : execFramePulse i s = .next t) : Held s t := by
  unfold execFramePulse at h
  cases h
  refine s.ifPowered_held ?_
  split
  · next h _ => exact (s.withPolicyNotice_stays (f := fun s => s.countFrame i _) (s.countFrame_stays _ h)).held
  · exact .refl s

theorem frameLossExpiry_held {i : Fin 6} (h : execFrameLossExpiry i s = .next t) : Held s t := by
  unfold execFrameLossExpiry at h
  cases h
  refine s.ifPowered_held ?_
  split
  · next h _ => exact (s.withPolicyNotice_stays (f := fun s => s.holdScreen i _ _) (s.holdScreen_stays _ _ h)).held
  · exact .refl s

theorem strikeTimerExpiry_held {i : Fin 6} (h : execStrikeTimerExpiry i s = .next t) : Held s t := by
  unfold execStrikeTimerExpiry at h
  cases h
  refine s.ifPowered_held ?_
  split
  · next h _ =>
    have hready : Stays s (s.updScreen i fun c => { c with state := .ready, strikeTimer := none }) := by
      refine s.updScreen_stays ⟨rfl, ?_, ?_, fun _ => h⟩
      · simp only [Screen.showing, h]
      · rw [h]
        exact ⟨nofun, nofun⟩
    refine (Stays.trans (s.withPolicyNotice_stays ?_) (examine_stays _)).held
    exact hready.trans (postState_quiet _ i _ _).stays
  · exact .refl s

theorem spacingIntervalExpiry_held (h : execSpacingIntervalExpiry s = .next t) : Held s t := by
  unfold execSpacingIntervalExpiry at h
  cases h
  refine s.ifPowered_held ?_
  split
  · exact .refl s
  · refine (Stays.trans ?_ (examine_stays _)).held
    exact (Quiet.of (s := s) (t := { s with spacing := none }) ⟨fun _ => id, id, id, id, id⟩).stays

theorem cooldownTimerExpiry_held {i : Fin 6} (h : execCooldownTimerExpiry i s = .next t) : Held s t := by
  unfold execCooldownTimerExpiry at h
  cases h
  refine s.ifPowered_held ?_
  split
  · next h _ =>
    have hdark : Stays s (s.updScreen i fun c => { c with state := .dark, cooldownTimer := none }) := by
      refine s.updScreen_stays ⟨rfl, ?_, ?_, nofun⟩
      · simp only [Screen.showing, h]
      · rw [h]
        exact ⟨nofun, nofun⟩
    refine (s.withPolicyNotice_stays ?_).held
    exact hdark.trans (postState_quiet _ i _ _).stays
  · exact .refl s

theorem pulseTimerExpiry_held {i : Fin 6} {line : Fin 4} (h : execPulseTimerExpiry i line s = .next t) : Held s t := by
  unfold execPulseTimerExpiry at h
  cases h
  refine s.ifPowered_held ?_
  split
  · exact .refl s
  · exact (s.updCue_quiet _ _).held

/-! ## Channels and the announce path -/

theorem siteSampleTick_held {i : Fin 6} {a b : Half} (h : execSiteSampleTick i a b s = .next t) : Held s t := by
  unfold execSiteSampleTick at h
  cases h
  refine s.ifPowered_held ?_
  dsimp only
  have hput : ∀ u : State, Quiet s u → u.channels = s.channels →
      Held s (u.putChannel i (s.channels[i].tick s.screens[i].featureOpen a)) := fun u q hc =>
    (q.trans (u.putChannel_quiet i _ fun h => Channel.ok_tick (by rw [← hc]; exact h) _ _)).held
  split
  · exact hput _ (s.post_quiet _ _) rfl
  · exact hput s (.refl s) rfl

theorem featureFrameArrival_held {i : Fin 6} {l r : Half} (h : execFeatureFrameArrival i l r s = .next t) : Held s t := by
  unfold execFeatureFrameArrival at h
  cases h
  refine s.ifPowered_held ?_
  dsimp only
  have hover : Quiet s (s.updChannel i fun c => { c with overrun := true }) := s.updChannel_quiet i _ id
  split
  · next hlt =>
    refine (s.updChannel_quiet i _ fun ⟨h1, h2, h3, h4, h5, h6, _, rest⟩ => ⟨h1, h2, h3, h4, h5, h6, ?_, rest⟩).held
    rw [List.length_append]
    exact hlt
  · split
    · exact hover.held
    · exact (hover.trans (post_quiet _ _ _)).held

theorem atLevelNotice_held {i : Fin 6} (h : execAtLevelNotice i s = .next t) : Held s t := by
  unfold execAtLevelNotice at h
  cases h
  refine s.ifPowered_held ?_
  dsimp only
  split
  · exact ((s.takeNotice_quiet _).trans (testPlaying_quiet _ _)).held
  · exact (s.takeNotice_quiet _).held

theorem policyNotice_held {i : Fin 6} (h : execPolicyNotice i s = .next t) : Held s t := by
  unfold execPolicyNotice at h
  cases h
  exact s.ifPowered_held ((s.takeNotice_quiet _).trans (grant_quiet _)).held

theorem done_held {level : Bool} (h : execDone level s = .next t) : Held s t := by
  have hline : Quiet s { s with doneLine := level } := .of ⟨fun _ => id, id, id, id, id⟩
  unfold execDone at h
  cases h
  split
  · split
    · exact (hline.trans (endPlay_quiet _ _ _)).held
    · exact hline.held
  · exact hline.held

theorem playerTimerExpiry_held (h : execPlayerTimerExpiry s = .next t) : Held s t := by
  unfold execPlayerTimerExpiry at h
  cases h
  refine s.ifPowered_held ?_
  split
  · exact ((s.sendPlay_quiet _).trans (endPlay_quiet _ _ _)).held
  · exact .refl s

/-! ## Lanes -/

theorem loopRawChange_held {i : Fin 8} {loop : Loop} {level : Bool} (h : execLoopRawChange i loop level s = .next t) :
    Held s t := by
  have hraw : ∀ l : Lane, (l.rawChange loop level s.powered).mode = l.mode
      ∧ (l.rawChange loop level s.powered).pending = l.pending
      ∧ (l.rawChange loop level s.powered).barrierUp = l.barrierUp := fun l => by
    unfold Lane.rawChange
    cases loop <;> dsimp only <;> split
    · exact ⟨rfl, rfl, rfl⟩
    · split <;> exact ⟨rfl, rfl, rfl⟩
    · exact ⟨rfl, rfl, rfl⟩
    · split <;> exact ⟨rfl, rfl, rfl⟩
  unfold execLoopRawChange at h
  cases h
  obtain ⟨hm, hp, hb⟩ := hraw s.lanes[i]
  exact (s.updLane_quiet i _ hm hp hb).held

theorem loopDebounceExpiry_held {i : Fin 8} {loop : Loop} (h : execLoopDebounceExpiry i loop s = .next t) : Held s t := by
  unfold execLoopDebounceExpiry at h
  cases h
  refine s.ifPowered_held ?_
  split
  · exact .refl s
  · exact (s.loopExpiry_stays i loop).held

theorem admissionTimerExpiry_held {i : Fin 8} (h : execAdmissionTimerExpiry i s = .next t) : Held s t := by
  unfold execAdmissionTimerExpiry at h
  cases h
  refine s.ifPowered_held ?_
  split
  · next h => exact (s.expireAdmission_stays h).held
  · exact .refl s

/-! ## The key, the clocks and the supplies -/

theorem key_quiet (s : State) (k : KeySwitch) : Quiet s { s with key := k } := .of ⟨fun _ => id, id, id, id, id⟩

theorem keyRawChange_held {level : Bool} (h : execKeyRawChange level s = .next t) : Held s t := by
  unfold execKeyRawChange at h
  cases h
  split
  · exact .refl s
  · split
    · exact (s.key_quiet _).held
    · exact (s.key_quiet _).held

theorem keyDebounceExpiry_held (h : execKeyDebounceExpiry s = .next t) : Held s t := by
  unfold execKeyDebounceExpiry at h
  cases h
  refine s.ifPowered_held ?_
  split
  · exact .refl s
  · exact ((s.key_quiet _).trans (post_quiet _ _ _)).held

theorem book_quiet (s : State) (b : CountBook) (h : b.records = s.book.records := by rfl) : Quiet s { s with book := b } :=
  .of (s.book_keeps b) (hb := h)

theorem siteTimeAdvance_held (h : execSiteTimeAdvance s = .next t) : Held s t := by
  unfold execSiteTimeAdvance at h
  cases h
  split
  · exact (s.book_quiet _).held
  · exact .refl s

theorem kitchenClockAdvance_held (h : execKitchenClockAdvance s = .next t) : Held s t := by
  unfold execKitchenClockAdvance at h
  cases h
  refine s.ifPowered_held ?_
  exact (Quiet.of (s := s) (t := { s with kitchen := { s.kitchen with clock := s.kitchen.clock + 1, clockMs := 0 } })
    ⟨fun _ => id, id, id, id, id⟩).held

/-- Without main power the shows are in order whatever they are. -/
theorem losePower_held (s : State) : Held s s.losePower := ⟨id, id, id, id, id, fun _ => id, fun _ => nofun⟩

theorem backupSupplyLoss_held (h : execBackupSupplyLoss s = .next t) : Held s t := by
  unfold execBackupSupplyLoss at h
  cases h
  refine ⟨id, id, id, id, id, fun _ => id, fun hs (hp : s.powered = true) => ?_⟩
  have := hs hp
  simp only [hp, if_true]
  exact this

/-! ## The kitchen and orders -/

theorem bumpRawChange_held {st : Fin 4} {level : Bool} (h : execBumpRawChange st level s = .next t) : Held s t := by
  unfold execBumpRawChange at h
  cases h
  exact (s.updStation_quiet st _ id).held

theorem bumpDebounceExpiry_held {st : Fin 4} (h : execBumpDebounceExpiry st s = .next t) : Held s t := by
  have hbutton : Quiet s (s.updStation st fun x => { x with bump := s.kitchen.stations[st].bump.expired }) :=
    s.updStation_quiet st _ id
  unfold execBumpDebounceExpiry at h
  cases h
  refine s.ifPowered_held ?_
  dsimp only
  split
  · exact .refl s
  · split
    · exact (hbutton.trans (bump_quiet _ st)).held
    · exact hbutton.held

theorem ticketDoneNotice_held {n : Nat} {st : Fin 4} (h : execTicketDoneNotice n st s = .next t) : Held s t := by
  unfold execTicketDoneNotice at h
  cases h
  refine s.ifPowered_held ?_
  dsimp only
  split
  · exact (s.takeNotice_quiet _).held
  · split
    · exact ((s.takeNotice_quiet _).trans (ticketDone_quiet _ _ st)).held
    · exact (s.takeNotice_quiet _).held

theorem slotFreeNotice_held (h : execSlotFreeNotice s = .next t) : Held s t := by
  unfold execSlotFreeNotice at h
  cases h
  exact s.ifPowered_held ((s.takeNotice_quiet _).trans (placeDeferred_quiet _)).held

theorem callPlayedNotice_held {n e : Nat} {k : CallKind} {o : PlayOutcome} (h : execCallPlayedNotice n e k o s = .next t) :
    Held s t := by
  unfold execCallPlayedNotice at h
  cases h
  refine s.ifPowered_held ?_
  dsimp only
  split
  · exact (s.takeNotice_quiet _).held
  · split
    · exact ((s.takeNotice_quiet _).trans (updOrder_quiet _ n _)).held
    · exact (s.takeNotice_quiet _).held

theorem recallTimerExpiry_held {n : Nat} (h : execRecallTimerExpiry n s = .next t) : Held s t := by
  unfold execRecallTimerExpiry at h
  cases h
  refine s.ifPowered_held ?_
  split
  · exact .refl s
  · split
    · dsimp only
      split
      · exact ((s.stopRecall_quiet _).trans (placeCall_quiet _ _ _)).held
      · exact (((s.stopRecall_quiet _).trans (leaveReady_quiet _ _)).trans (expireOrder_quiet _ _)).held
    · exact .refl s

theorem handedRawChange_held {w : Fin 2} {level : Bool} (h : execHandedRawChange w level s = .next t) : Held s t := by
  unfold execHandedRawChange at h
  cases h
  exact (s.updHanded_quiet w _).held

theorem handedDebounceExpiry_held {w : Fin 2} (h : execHandedDebounceExpiry w s = .next t) : Held s t := by
  unfold execHandedDebounceExpiry at h
  cases h
  refine s.ifPowered_held ?_
  dsimp only
  split
  · exact .refl s
  · split
    · exact ((s.updHanded_quiet w _).trans (handOver_quiet _ w)).held
    · exact (s.updHanded_quiet w _).held

/-! ## The link -/

theorem rxByte_held {b : Byte} {good : Bool} (h : execRxByte b good s = .next t) : Held s t := by
  unfold execRxByte at h
  cases h
  refine s.ifPowered_held ?_
  split
  · split
    · exact s.updLink_held (.refl s) id
    · exact .refl s
  · split
    · exact s.frameByte_held _
    · exact s.hunt_held

theorem byteGapExpiry_held (h : execByteGapExpiry s = .next t) : Held s t := by
  unfold execByteGapExpiry at h
  cases h
  refine s.ifPowered_held ?_
  split
  · exact s.hunt_held
  · exact .refl s

theorem txFrameEnd_held (h : execTxFrameEnd s = .next t) : Held s t := by
  unfold execTxFrameEnd at h
  cases h
  refine s.ifPowered_held ?_
  split
  · exact .refl s
  · split
    · exact s.siteReset_held
    · exact s.nextFrame_held

theorem unknownKind_held {tag kind : Byte} {body : List Byte} (h : execUnknownKind tag kind body s = .next t) : Held s t := by
  unfold execUnknownKind at h
  cases h
  refine s.ifPowered_held ?_
  split
  · next h =>
    rw [Bool.and_eq_true] at h
    exact s.takeFrame_held _ h.2
  · exact s.offer_held _

theorem siteResetReset_held (h : execSiteResetReset s = .next t) : Held s t := by
  unfold execSiteResetReset at h
  cases h
  refine s.ifPowered_held ?_
  split
  · exact s.siteReset_held
  · exact .refl s

theorem execPowerOn_held {strap : Bool} (h : execPowerOn strap s = .next t) : Held s t := by
  unfold execPowerOn at h
  cases h
  exact s.losePower_held.trans (powerOn_held _ strap)

/-! ## Commands -/

/-- Every command keeps every invariant. -/
theorem exec_held {c : Instr} (h : exec c s = .next t) : Held s t := by
  cases hr : c.request with
  | some q =>
    rw [exec_request (tag := q.1) (r := q.2) hr] at h
    cases h
    exact s.request_held _ _
  | none =>
    cases c with
    | powerOn strap => exact execPowerOn_held h
    | mainPowerLoss => cases h; exact s.losePower_held
    | siteResetReset => exact siteResetReset_held h
    | rxByte b good => exact rxByte_held h
    | byteGapExpiry => exact byteGapExpiry_held h
    | txFrameEnd => exact txFrameEnd_held h
    | unknownKind tag kind body => exact unknownKind_held h
    | framePulse i => exact framePulse_held h
    | frameLossExpiry i => exact frameLossExpiry_held h
    | strikeTimerExpiry i => exact strikeTimerExpiry_held h
    | spacingIntervalExpiry => exact spacingIntervalExpiry_held h
    | cooldownTimerExpiry i => exact cooldownTimerExpiry_held h
    | pulseTimerExpiry i line => exact pulseTimerExpiry_held h
    | siteSampleTick i a b => exact siteSampleTick_held (b := b) h
    | featureFrameArrival i l r => exact featureFrameArrival_held h
    | atLevelNotice i => exact atLevelNotice_held h
    | policyNotice i => exact policyNotice_held h
    | done level => exact done_held h
    | playerTimerExpiry => exact playerTimerExpiry_held h
    | loopRawChange i loop level => exact loopRawChange_held h
    | loopDebounceExpiry i loop => exact loopDebounceExpiry_held h
    | admissionTimerExpiry i => exact admissionTimerExpiry_held h
    | keyRawChange level => exact keyRawChange_held h
    | keyDebounceExpiry => exact keyDebounceExpiry_held h
    | siteTimeAdvance => exact siteTimeAdvance_held h
    | kitchenClockAdvance => exact kitchenClockAdvance_held h
    | bumpRawChange st level => exact bumpRawChange_held h
    | bumpDebounceExpiry st => exact bumpDebounceExpiry_held h
    | ticketDoneNotice n st => exact ticketDoneNotice_held h
    | slotFreeNotice => exact slotFreeNotice_held h
    | callPlayedNotice n e k o => exact callPlayedNotice_held h
    | recallTimerExpiry n => exact recallTimerExpiry_held h
    | handedRawChange w level => exact handedRawChange_held h
    | handedDebounceExpiry w => exact handedDebounceExpiry_held h
    | backupSupplyLoss => exact backupSupplyLoss_held h
    | _ => cases hr

/-! ## A step -/

/-- One millisecond moves timers and clocks alone. -/
theorem elapseBlocks_quiet (s : State) : Quiet s s.elapseBlocks := by
  have hscreen : ∀ i : Fin 6, s.elapseBlocks.screens[i] = s.screens[i].elapse := fun i => Vector.getElem_map _ i.isLt
  have hlane : ∀ i : Fin 8, s.elapseBlocks.lanes[i] = s.lanes[i].elapse := fun i => Vector.getElem_map _ i.isLt
  have hstation : ∀ i : Fin 4, s.elapseBlocks.kitchen.stations[i].queue = s.kitchen.stations[i].queue :=
    fun i => by simp [elapseBlocks]
  refine ⟨⟨fun _ => id, fun ⟨hq, hl, hst, hr, hc⟩ => ⟨hq, ?_, fun st => ?_, ordersRise_map _ (fun _ => rfl) hr, hc⟩, id,
    fun h i => ?_, id⟩, ⟨rfl, rfl, fun i => ?_, fun _ => ⟨rfl, rfl⟩⟩, ⟨fun l => ?_, rfl⟩⟩
  · exact (List.length_map _).trans_le hl
  · rw [hstation]
    exact hst st
  · rw [hlane]
    exact h i
  · rw [hscreen]
    exact ⟨rfl, rfl⟩
  · rw [hlane]
    rfl

theorem elapse_held (s : State) : Held s s.elapse := by
  unfold elapse
  split
  · exact (s.elapseBlocks_quiet.trans (book_quiet _ _)).held
  · split
    · exact (s.book_quiet _).held
    · exact .refl s

/-- A step keeps every invariant. -/
theorem step_held (h : step s = .next t) : Held s t := by
  unfold step at h
  split at h
  · next rest _ =>
    have hqueue : Held s { s with pending := rest } := ⟨id, id, id, id, id, fun _ => id, id⟩
    exact hqueue.trans (exec_held h)
  · split at h
    · exact exec_held h
    · cases h
      exact s.elapse_held

end State

/-! ## The invariants of a step -/

/-- Settles O56: each operation keeps the places of its queues (`Keeps`), and a reply is added only where R186 and R187 leave
a place for it. -/
theorem stepKeepsQueues : Obligations.StepKeepsQueues :=
  ⟨fun _ _ hs h => (State.step_held h).link hs, fun _ _ hs h => (State.step_held h).queues hs⟩

/-- Settles O57: a barrier rises with its admission and falls with it, and a car record leaves with the admission that names
it. -/
theorem stepKeepsTheGate : Obligations.StepKeepsTheGate :=
  ⟨fun _ _ hs h => (State.step_held h).barriers hs, fun _ _ hs h => (State.step_held h).cars hs,
    fun _ _ hc hs h => (State.step_held h).admissions hc hs⟩

/-- Settles O58: every change of a channel's mode, level or gain brings its at-level indication up to date. -/
theorem stepKeepsChannels : Obligations.StepKeepsChannels := fun _ _ hs h => (State.step_held h).channels hs

/-- Settles O59: a screen enters and leaves the strike queue with its state, and a show's record is closed with it. -/
theorem stepKeepsShows : Obligations.StepKeepsShows := fun _ _ hs h => (State.step_held h).shows hs

/-- Settles O60: the reset state has the blocks that every start leaves, with a book whose records are all FREE. -/
theorem resetHasTheInvariants : Obligations.ResetHasTheInvariants := by
  obtain ⟨hlink, hqueues, hchannels, hbarriers, hcars, hadmissions, hshows⟩ := State.reset_atReset.sound
  exact ⟨hlink, hbarriers, hchannels, hcars, hqueues, hshows, hadmissions⟩

end Sys2Proof.Machine
end

section
/-! Request commands: the reply of one that is taken; and the step, the queries, the supplies, the policies and the clocks (O1,
O2, O10, O11, O16, O46). -/

namespace Sys2Proof.Machine

namespace State

variable {s t : State} {c : Instr} {tag : Byte} {r : Request}

/-! ## A request command that is taken -/

theorem exec_accepted {data : List Byte} (hc : c.request = some (tag, r)) (ht : s.takes tag)
    (h : requestEffect r s = (t, .ok data)) (hf : r.fits = true := by rfl) (hr : r ≠ .siteReset := by nofun) :
    exec c s = .next (t.replied tag data) := by
  rw [exec_request hc, request_takes ht hf, take_of h hr]

theorem exec_refused {code : Result} (hc : c.request = some (tag, r)) (ht : s.takes tag)
    (h : requestEffect r s = (s, .refused code)) (hf : r.fits = true := by rfl) (hr : r ≠ .siteReset := by nofun) :
    s.refuses tag c code := by
  rw [refuses, exec_request hc, request_takes ht hf, take_refused h hr]

/-- A query's reply, where its effect leaves the state (R188). -/
theorem exec_query {data : List Byte} (hc : c.request = some (tag, r)) (ht : s.takes tag)
    (h : requestEffect r s = (s, .ok data)) (hf : r.fits = true := by rfl) (hr : r ≠ .siteReset := by nofun) :
    exec c s = .next (s.replied tag data) :=
  exec_accepted hc ht h hf hr

end State

/-! ## The step -/

/-- Settles O1: a step reads the front of the queue. -/
theorem stepRunsFrontCommand : Obligations.StepRunsFrontCommand := fun _ _ _ => rfl

namespace State

variable {s : State}

theorem step_idle (h : s.pending = []) : step s = match s.dueEvent with
    | some c => exec c s
    | none => .next s.elapse := by
  unfold step
  split
  · next heq => rw [h] at heq; cases heq
  · rfl

theorem step_of_due {c : Instr} (h : s.pending = []) (hd : s.dueEvent = some c) : step s = exec c s := by
  rw [step_idle h, hd]

theorem step_of_quiet (h : s.pending = []) (hd : s.dueEvent = none) : step s = .next s.elapse := by
  rw [step_idle h, hd]

theorem dueEvent_notice {n : Notice} {rest : List Notice} (hp : s.powered = true) (hn : s.notices = n :: rest) :
    s.dueEvent = some n.event := by
  simp only [dueEvent, hp, if_true, hn]

theorem dueEvent_powered (hp : s.powered = true) (hn : s.notices = []) :
    s.dueEvent = if s.book.secondMs ≥ 1000 then some .siteTimeAdvance else s.expiries.head? := by
  simp only [dueEvent, hp, if_true, hn]

theorem dueEvent_backup (hp : s.powered = false) (hv : s.book.valid = true) :
    s.dueEvent = if s.book.secondMs ≥ 1000 then some .siteTimeAdvance else none := by
  simp only [dueEvent, hp, hv, Bool.false_eq_true, if_false, Bool.true_and, decide_eq_true_eq]

theorem dueEvent_dead (hp : s.powered = false) (hv : s.book.valid = false) : s.dueEvent = none := by
  simp only [dueEvent, hp, hv, Bool.false_eq_true, if_false, Bool.false_and]

end State

/-- Settles O2, by the order in which `dueEvent` looks: notices, site time's second, expiries, and then the millisecond. -/
theorem idleStep : Obligations.IdleStep := by
  intro s h
  refine ⟨fun n rest hp hn => ?_, fun hp hn hs => ?_, fun c rest hp hn hs he => ?_, fun hp hn hs he => ?_, fun hp hv hs => ?_,
    fun hp hv hs => ?_, fun hp hv => ?_⟩
  · exact State.step_of_due h (State.dueEvent_notice hp hn)
  · exact State.step_of_due h (by rw [State.dueEvent_powered hp hn, if_pos hs])
  · exact State.step_of_due h (by rw [State.dueEvent_powered hp hn, if_neg (Nat.not_le.2 hs), he]; rfl)
  · rw [State.step_of_quiet h (by rw [State.dueEvent_powered hp hn, if_neg (Nat.not_le.2 hs), he]; rfl), State.elapse,
      if_pos hp]
    rfl
  · exact State.step_of_due h (by rw [State.dueEvent_backup hp hv, if_pos hs])
  · rw [State.step_of_quiet h (by rw [State.dueEvent_backup hp hv, if_neg (Nat.not_le.2 hs)]), State.elapse,
      if_neg (by rw [hp]; decide), if_pos hv]
    rfl
  · rw [State.step_of_quiet h (State.dueEvent_dead hp hv), State.elapse, if_neg (by rw [hp]; decide),
      if_neg (by rw [hv]; decide)]

/-! ## Queries -/

namespace State

variable (s : State)

theorem getScreenEffect_eq {b : Byte} {i : Fin 6} (h : b.toNat = i.val) : getScreenEffect b s = (s, .ok (s.screenBytes i)) := by
  rw [getScreenEffect, unit_eq h]

theorem getLaneEffect_eq {b : Byte} {i : Fin 8} (h : b.toNat = i.val) : getLaneEffect b s = (s, .ok (laneBytes s.lanes[i])) := by
  rw [getLaneEffect, unit_eq h]

theorem readCountEffect_eq {b : Byte} {i : Fin 16} (h : b.toNat = i.val) : readCountEffect b s = (s, .ok
    (recordBytes i s.book.records[i] ++ secondCode s.key.office ++ u8 s.book.policy.code)) := by
  rw [readCountEffect, unit_eq h]

theorem getCarEffect_eq {x : Half} {c : Car} (hx : x ≠ 0) (h : s.findCar x.toNat = some c) :
    getCarEffect x s = (s, .ok (s.carBytes c)) := by
  rw [getCarEffect, if_neg hx, h]

theorem getOrderEffect_number {x : Half} {o : Order} (hx : x ≠ 0) (h : s.findOrder x.toNat = some o) :
    getOrderEffect x 0 s = (s, .ok (orderBytes s.orders o)) := by
  rw [getOrderEffect, if_neg (fun e => hx (e.2 rfl)), if_pos hx, h]

theorem getOrderEffect_car {x : Half} (hx : x ≠ 0) : getOrderEffect 0 x s = (s, .ok (getOrderEffect 0 x s).2.data) := by
  rw [getOrderEffect, if_neg (fun e => hx (e.1 rfl)), if_neg (by simp)]
  rfl

end State

/-- Settles O10: a query's effect is its reply. -/
theorem queriesChangeNothing : Obligations.QueriesChangeNothing := by
  refine ⟨fun s tag ht => ?_, fun s tag b ht => ⟨State.exec_query rfl ht rfl, State.exec_query rfl ht rfl,
    fun i h => State.exec_query rfl ht (s.getScreenEffect_eq h), fun i h => State.exec_query rfl ht (s.getLaneEffect_eq h),
    fun i h => ?_, fun x c hx h => State.exec_query rfl ht (s.getCarEffect_eq hx h),
    fun x o hx h => State.exec_query rfl ht (s.getOrderEffect_number hx h),
    fun x hx => State.exec_query rfl ht (s.getOrderEffect_car hx)⟩⟩
  · rw [State.exec_query (r := .identify) rfl ht rfl]
    cases s.link.fastBaud <;> rfl
  · rw [State.exec_query (r := .readCount b) rfl ht (s.readCountEffect_eq h)]
    cases s.key.office <;> rfl

/-! ## SITE_RESET taken and the supplies -/

/-- Settles O11: `losePower` and its counterpart keep the book while the other supply holds it. -/
theorem siteResetAndSupplyLosses : Obligations.SiteResetAndSupplyLosses := by
  refine ⟨fun s tag l ht hl => ?_, fun s => ⟨fun hv => ?_, fun hp => ?_, fun hv => ?_, fun hp => ?_, fun hp => ?_⟩⟩
  · have hreset : l.resetTaken = true := by
      rw [hl, Link.postReply, Link.startIfIdle]
      split
      · rfl
      · split
        · rfl
        · split <;> rfl
    refine ⟨?_, hreset, by rw [Link.serves, hreset, Bool.not_true, Bool.and_false]⟩
    rw [hl, exec_request (r := .siteReset) rfl, State.request_takes ht rfl]
    rfl
  · change Host.Outcome.next _ = _
    rw [State.losePower, hv]
    rfl
  · change Host.Outcome.next _ = _
    rw [hp]
    rfl
  · refine ⟨s.losePower, rfl, ?_, rfl⟩
    rw [State.losePower, hv]
    rfl
  · refine ⟨_, rfl, ?_, rfl⟩
    dsimp only
    rw [hp]
    rfl
  · refine ⟨fun i => ⟨?_, ?_, ?_, fun l => ?_⟩, fun i => ?_, fun k => ?_⟩
    · rw [State.lamp, hp, Bool.false_and]
    · rw [State.douser, hp, Bool.false_and]
    · rw [State.exciter, hp]; rfl
    · rw [State.cueLine, hp, Bool.false_and]
    · rw [State.barrier, hp, Bool.false_and]
    · rw [State.tx, hp, Bool.false_and]

/-! ## Effective policies -/

theorem Screen.current_eq {c : Screen} {p : Position} {prog : List Segment} {g : Segment} (hp : c.position = some p)
    (hprog : c.program = some prog) (hg : prog[p.segment]? = some g) : c.current = some g := by
  rw [Screen.current, hp, Option.bind_some, Screen.segments, hprog]
  exact hg

/-- READY and the two states before it admit everybody (R11). -/
theorem Screen.policies_of_waiting {c : Screen} (h : c.state ∈ [ScreenState.strikeWait, .striking, .ready]) :
    c.policies = ⟨.admitAll, .opened, .opened⟩ := by
  simp only [List.mem_cons, List.not_mem_nil, or_false] at h
  rcases h with h | h | h <;> simp only [Screen.policies, h]

theorem Screen.policies_of_closed {c : Screen} (h : c.state ∈ [ScreenState.dark, .closing]) :
    c.policies = ⟨.closed, .closed, .opened⟩ := by
  simp only [List.mem_cons, List.not_mem_nil, or_false] at h
  rcases h with h | h <;> simp only [Screen.policies, h]

theorem Screen.policies_of_running {c : Screen} {g : Segment} (h : c.state = .running) (hg : c.current = some g) :
    c.policies = ⟨g.gate, g.order, g.announce⟩ := by
  simp only [Screen.policies, h, hg]

theorem Screen.policies_of_holding {c : Screen} {g : Segment} (h : c.state = .holding) (hg : c.current = some g) :
    c.policies = ⟨g.gate, g.order, .opened⟩ := by
  simp only [Screen.policies, h, hg]

/-- Settles O16, state by state. -/
theorem effectivePolicyTable : Obligations.EffectivePolicyTable := fun _ _ =>
  ⟨fun _ _ _ hs hp hprog hg => Screen.policies_of_running hs (Screen.current_eq hp hprog hg),
    fun _ _ _ hs hp hprog hg => Screen.policies_of_holding hs (Screen.current_eq hp hprog hg),
    Screen.policies_of_waiting, Screen.policies_of_closed⟩

/-! ## Clocks -/

/-- A 32-bit clock counts on from its highest value to 0 (R134, R148). -/
theorem toNat_add_one_word (w : Word) : (w + 1).toNat = if w.toNat = 4294967295 then 0 else w.toNat + 1 := by
  have := w.isLt
  rw [BitVec.toNat_add]
  split <;> simp <;> omega

/-- Settles O46. -/
theorem clocks : Obligations.Clocks := by
  intro s
  refine ⟨fun tag time ht => State.exec_accepted rfl ht rfl, fun h => ⟨_, rfl, ?_⟩, fun h => ⟨_, rfl, ?_⟩⟩
  · rw [if_pos (Bool.or_eq_true _ _ ▸ h)]
    exact ⟨rfl, toNat_add_one_word _⟩
  · rw [State.ifPowered, if_pos h]
    exact ⟨rfl, toNat_add_one_word _⟩

end Sys2Proof.Machine
end

section
/-! Show programs, the count book's arithmetic, and the strike arbiter (O17 to O20). -/

namespace Sys2Proof.Machine

/-! ## Counts -/

theorem mem_allRecords (r : Fin 16) : r ∈ allRecords := by revert r; decide

namespace State

variable {s : State}

theorem takesCount_iff {r : Fin 16} {n : Nat} :
    s.takesCount r n = true ↔ s.book.records[r].state = .opened ∧ s.book.records[r].show_ = some n := by
  rw [takesCount, Bool.and_eq_true, beq_iff_eq, beq_iff_eq]

theorem count_of_takes {r : Fin 16} {n : Nat} (h : s.takesCount r n = true) (f : Counts → Counts) :
    s.count r n f = s.updRecord r fun c => { c with counts := f c.counts } := by
  rw [count, if_pos h]

theorem count_of_not {r : Fin 16} {n : Nat} (h : ¬ s.takesCount r n = true) (f : Counts → Counts) : s.count r n f = s := by
  rw [count, if_neg h]

theorem count_opened {r : Fin 16} {n : Nat} (hs : s.book.records[r].state = .opened) (hn : s.book.records[r].show_ = some n)
    (f : Counts → Counts) : s.count r n f = s.updRecord r fun c => { c with counts := f c.counts } :=
  count_of_takes (takesCount_iff.2 ⟨hs, hn⟩) f

theorem showOf_eq {r : Fin 16} {n : Nat} (h : s.book.records[r].show_ = some n) : s.showOf r = n := by
  rw [showOf, h, Option.getD_some]

end State

/-- The shows of the records that are not FREE (R125). -/
theorem CountBook.mem_shows {b : CountBook} {n : Nat} :
    n ∈ b.shows ↔ ∃ r : Fin 16, b.records[r].state ≠ .free ∧ b.records[r].show_ = some n := by
  rw [CountBook.shows, List.mem_filterMap]
  refine exists_congr fun r => ?_
  simp only [mem_allRecords, true_and, beq_iff_eq]
  split
  · next h => exact ⟨nofun, fun hn => absurd h hn.1⟩
  · next h => exact ⟨fun hn => ⟨h, hn⟩, And.right⟩

theorem CountBook.length_shows (b : CountBook) : b.shows.length ≤ 16 := List.length_filterMap_le _ _

/-- Settles O19: a pick tries one number more than there are live ones, and the numbers go round 65,535 values. -/
theorem countBookArithmetic : Obligations.CountBookArithmetic := by
  refine ⟨fun live n h1 h2 hl => pickNumber_spec h1 h2 hl, fun n => rfl, fun b h1 h2 => ?_, fun u h1 h2 hl => ?_,
    fun s r n f => ⟨fun hs hn => s.count_opened hs hn f, fun h => ?_⟩,
    fun c late k => ⟨rfl, rfl, rfl, rfl, rfl, rfl, rfl, rfl, rfl⟩⟩
  · have hlen := b.length_shows
    obtain ⟨hfree, k, hk, hpick, hlive⟩ := pickNumber_spec (live := b.shows) h1 h2 (by omega)
    obtain ⟨hlo, hhi⟩ := pickNumber_range (live := b.shows) h1 h2 b.shows.length
    exact ⟨hlo, hhi, fun r hr hn => hfree (CountBook.mem_shows.2 ⟨r, hr, hn⟩), k, hk.trans hlen, hpick,
      fun j hj => CountBook.mem_shows.1 (hlive j hj)⟩
  · have hlen : u.liveNumbers.length ≤ 128 := by rwa [OrderUnit.liveNumbers, List.length_map]
    obtain ⟨⟨hlo, hhi⟩, hfresh⟩ := nextOrder_fresh h1 h2 hl
    obtain ⟨-, k, hk, hpick, hlive⟩ := pickNumber_spec (live := u.liveNumbers) h1 h2 (by omega)
    exact ⟨hlo, hhi, hfresh, k, hk.trans hlen, hpick, fun j hj => List.mem_map.1 (hlive j hj)⟩
  · refine s.count_of_not (fun hc => ?_) f
    obtain ⟨hs, hn⟩ := State.takesCount_iff.1 hc
    exact h.elim (· hs) (· hn)

/-! ## Reading records -/

/-- A list is read when each of its records is. -/
theorem readAll_iff {α β : Type} (f : α → Option β) (xs : List α) (ys : List β) :
    readAll f xs = some ys ↔ xs.map f = ys.map some := by
  induction xs generalizing ys with
  | nil =>
    cases ys with
    | nil => exact ⟨fun _ => rfl, fun _ => rfl⟩
    | cons y ys => exact ⟨nofun, nofun⟩
  | cons x xs ih =>
    rw [readAll]
    cases ys with
    | nil => split <;> exact ⟨nofun, nofun⟩
    | cons y ys =>
      rw [List.map_cons, List.map_cons, List.cons.injEq, ← ih ys]
      cases hx : f x with
      | none => exact ⟨nofun, nofun⟩
      | some b =>
        cases hr : readAll f xs with
        | none => exact ⟨nofun, nofun⟩
        | some bs => simp only [Option.some.injEq, List.cons.injEq]

theorem readAll_length {α β : Type} {f : α → Option β} {xs : List α} {ys : List β} (h : readAll f xs = some ys) :
    ys.length = xs.length := by
  have := congrArg List.length ((readAll_iff f xs ys).1 h)
  rw [List.length_map, List.length_map] at this
  exact this.symm

/-- A list is not read where one of its records is not. -/
theorem readAll_none {α β : Type} {f : α → Option β} {xs : List α} (h : ∃ x ∈ xs, f x = none) : readAll f xs = none := by
  rw [Option.eq_none_iff_forall_ne_some]
  intro ys hys
  obtain ⟨x, hx, hf⟩ := h
  have := List.mem_map_of_mem (f := f) hx
  rw [(readAll_iff f xs ys).1 hys, hf] at this
  simp at this

theorem readAll_some {α β : Type} {f : α → Option β} {xs : List α} (h : ∀ x ∈ xs, f x ≠ none) :
    ∃ ys, readAll f xs = some ys := by
  induction xs with
  | nil => exact ⟨[], rfl⟩
  | cons x xs ih =>
    obtain ⟨ys, hys⟩ := ih fun y hy => h y (List.mem_cons_of_mem _ hy)
    obtain ⟨y, hy⟩ := Option.ne_none_iff_exists'.1 (h x (List.mem_cons_self ..))
    exact ⟨y :: ys, by rw [readAll, hy, hys]⟩

theorem segmentKind_code (b : Byte) :
    segmentKind? b = [SegmentKind.preshow, .trailers, .feature, .intermission, .closingReel][b.toNat]? := by
  unfold segmentKind?
  rcases b.toNat with _ | _ | _ | _ | _ | n <;> rfl

theorem gatePolicy_code (b : Byte) : gatePolicy? b = [GatePolicy.admitAll, .admitLate, .closed][b.toNat]? := by
  unfold gatePolicy?
  rcases b.toNat with _ | _ | _ | n <;> rfl

theorem orderPolicy_code (b : Byte) : orderPolicy? b = [OrderPolicy.opened, .lastCall, .closed][b.toNat]? := by
  unfold orderPolicy?
  rcases b.toNat with _ | _ | _ | n <;> rfl

theorem announcePolicy_code (b : Byte) : announcePolicy? b = [AnnouncePolicy.opened, .urgentOnly, .none][b.toNat]? := by
  unfold announcePolicy?
  rcases b.toNat with _ | _ | _ | n <;> rfl

theorem flagOf_iff (b : Byte) : flagOf b = true ↔ b ≠ 0 := bne_iff_ne

/-- A flag that is set for every byte but 0. -/
theorem flagOf_eq_iff (b : Byte) (x : Bool) : (x = true ↔ b ≠ 0) ↔ flagOf b = x := by
  rw [← flagOf_iff, ← Bool.eq_iff_iff]
  exact eq_comm

theorem unit_iff {n : Nat} {b : Byte} {i : Fin n} : unit? n b = some i ↔ b.toNat = i.val := by
  rw [unit?]
  split
  · rw [Option.some.injEq, Fin.ext_iff]
  · next h => exact ⟨nofun, fun e => absurd (e ▸ i.isLt) h⟩

theorem segment_iff (w : SegmentWire) (g : Segment) : segment? w = some g ↔
    segmentKind? w.kind = some g.kind ∧ gatePolicy? w.gate = some g.gate ∧ orderPolicy? w.order = some g.order
      ∧ announcePolicy? w.announce = some g.announce ∧ w.length ≠ 0 ∧ g.length = w.length.toNat
      ∧ (g.holdAtEnd = true ↔ w.hold ≠ 0) := by
  obtain ⟨kind, length, gate, order, announce, hold⟩ := g
  rw [flagOf_eq_iff, segment?]
  split
  · next k gp op ap hk hg ho ha =>
    rw [hk, hg, ho, ha]
    split
    · next hl => exact ⟨nofun, fun h => absurd hl h.2.2.2.2.1⟩
    · next hl =>
      simp only [Option.some.injEq, Segment.mk.injEq]
      constructor
      · rintro ⟨rfl, rfl, rfl, rfl, rfl, rfl⟩
        exact ⟨rfl, rfl, rfl, rfl, hl, rfl, rfl⟩
      · rintro ⟨rfl, rfl, rfl, rfl, -, rfl, rfl⟩
        exact ⟨rfl, rfl, rfl, rfl, rfl, rfl⟩
  · next hnone =>
    refine ⟨nofun, fun ⟨hk, hg, ho, ha, _⟩ => (hnone _ _ _ _ hk hg ho ha).elim⟩

/-- The line action of a code 0 to 3 (R26). -/
def lineActions (l : Fin 4) : List CueAction := [.pulse l, .set l, .clear l, .toggle l]

theorem cue_iff (w : CueWire) (e : CueEntry) : cue? w = some e ↔
    w.segment.toNat ≤ 31 ∧ e.segment = w.segment.toNat ∧ e.offset = w.offset.toNat ∧ (e.report = true ↔ w.report ≠ 0)
      ∧ ((∃ l : Fin 4, w.line.toNat = l.val ∧ (lineActions l)[w.action.toNat]? = some e.action)
        ∨ (w.action.toNat = 4 ∧ w.clip ≠ 0 ∧ w.priority.toNat ≤ 3 ∧ e.action = .announce w.clip.toNat w.priority.toNat)) := by
  obtain ⟨segment, offset, action, report⟩ := e
  rw [flagOf_eq_iff, cue?]
  dsimp only
  by_cases hseg : w.segment.toNat ≥ Config.segments
  · rw [if_pos hseg]
    exact ⟨nofun, fun h => absurd h.1 (Nat.not_le.2 hseg)⟩
  · rw [if_neg hseg]
    have hle : w.segment.toNat ≤ 31 := Nat.le_of_lt_succ (Nat.not_le.1 hseg)
    have hline : ∀ f : Fin 4 → CueAction, (unit? 4 w.line).map (fun l => (⟨w.segment.toNat, w.offset.toNat, f l,
        flagOf w.report⟩ : CueEntry)) = some ⟨segment, offset, action, report⟩ ↔
        segment = w.segment.toNat ∧ offset = w.offset.toNat ∧ flagOf w.report = report
          ∧ ∃ l : Fin 4, w.line.toNat = l.val ∧ f l = action := fun f => by
      simp only [Option.map_eq_some_iff, unit_iff, CueEntry.mk.injEq]
      constructor
      · rintro ⟨l, hl, rfl, rfl, rfl, rfl⟩
        exact ⟨rfl, rfl, rfl, l, hl, rfl⟩
      · rintro ⟨rfl, rfl, rfl, l, hl, rfl⟩
        exact ⟨l, hl, rfl, rfl, rfl, rfl⟩
    generalize w.action.toNat = a
    rcases a with _ | _ | _ | _ | _ | a
    · simp [hline, hle, lineActions]
    · simp [hline, hle, lineActions]
    · simp [hline, hle, lineActions]
    · simp [hline, hle, lineActions]
    · change (if w.clip = 0 ∨ w.priority.toNat > 3 then none else some _) = _ ↔ _
      split
      · next h =>
        refine ⟨nofun, fun hr => ?_⟩
        obtain ⟨-, -, -, -, ⟨l, -, hl⟩ | ⟨-, hc, hp, -⟩⟩ := hr
        · cases hl
        · exact (h.elim hc fun h' => absurd hp (Nat.not_le.2 h')).elim
      · next h =>
        rw [not_or, not_lt] at h
        simp only [Option.some.injEq, CueEntry.mk.injEq]
        constructor
        · rintro ⟨rfl, rfl, rfl, rfl⟩
          exact ⟨hle, rfl, rfl, rfl, .inr ⟨trivial, h.1, h.2, rfl⟩⟩
        · rintro ⟨-, rfl, rfl, rfl, ⟨l, -, hl⟩ | ⟨-, -, -, rfl⟩⟩
          · cases hl
          · exact ⟨rfl, rfl, rfl, rfl⟩
    · refine ⟨nofun, fun hr => ?_⟩
      obtain ⟨-, -, -, -, ⟨l, -, hl⟩ | ⟨h4, -⟩⟩ := hr
      · cases hl
      · omega

/-! ## LOAD_PROGRAM and LOAD_CUES -/

theorem Screen.not_active {c : Screen} (hr : c.state ≠ .running) (hh : c.state ≠ .holding) : c.active = false := by
  rw [Screen.active, Bool.or_eq_false_iff]
  exact ⟨beq_eq_false_iff_ne.2 hr, beq_eq_false_iff_ne.2 hh⟩

/-- Settles O17. -/
theorem loadsReplaceWhole : Obligations.LoadsReplaceWhole := by
  refine ⟨fun s tag b i ht hb hr hh => ⟨fun x y wires prog hlo hhi hread => ?_, fun wires table hlen hread => ?_⟩,
    fun wires prog => readAll_iff _ _ _, fun wires table => readAll_iff _ _ _, fun w g => ?_, fun w e => cue_iff w e⟩
  · refine State.exec_accepted rfl ht (r := .loadProgram b x y wires) ?_ (decide_eq_true (by omega))
    rw [requestEffect, loadProgramEffect, unit_eq hb]
    dsimp only
    rw [Screen.not_active hr hh, if_neg (by simp), if_neg (by rw [show Config.segments = 32 from rfl]; omega), hread]
    rfl
  · refine State.exec_accepted rfl ht (r := .loadCues b wires) ?_ (decide_eq_true (by omega))
    rw [requestEffect, loadCuesEffect, unit_eq hb]
    dsimp only
    rw [Screen.not_active hr hh, if_neg (by simp), if_neg (by rw [show Config.cueEntries = 24 from rfl]; omega), hread]
    dsimp only
    rw [readAll_length hread]
    rfl
  · rw [segment_iff, segmentKind_code, gatePolicy_code, orderPolicy_code, announcePolicy_code]

end Sys2Proof.Machine
end

section
/-! The screen sequencer's operations, and the strike arbiter, GO, HOLD, RESUME, SKIP and STOP (O18, O20 to O24). -/

namespace Sys2Proof.Machine

/-! ## The policies of a screen that an operation has changed -/

theorem Screen.current_of {c d : Screen} (hp : d.position = c.position) (hprog : d.program = c.program) :
    d.current = c.current := by
  rw [Screen.current, Screen.current, Screen.segments, Screen.segments, hp, hprog]

theorem Screen.policies_of_no_segment {c : Screen} (h : c.state ∈ [ScreenState.running, .holding]) (hg : c.current = none) :
    c.policies = ⟨.closed, .closed, .opened⟩ := by
  simp only [List.mem_cons, List.not_mem_nil, or_false] at h
  rcases h with h | h <;> simp only [Screen.policies, h, hg]

/-- HOLDING keeps the gate and order policies and opens the announce policy (R11). -/
theorem Screen.policies_toHolding {c : Screen} (h : c.state = .running) (why : HoldReason) :
    (c.toHolding why).policies = { c.policies with announce := .opened } := by
  have hcur : (c.toHolding why).current = c.current := Screen.current_of rfl rfl
  cases hg : c.current with
  | some g => rw [Screen.policies_of_holding rfl (hcur.trans hg), Screen.policies_of_running h hg]
  | none =>
    rw [Screen.policies_of_no_segment (by simp [Screen.toHolding]) (hcur.trans hg),
      Screen.policies_of_no_segment (by simp [h]) hg]

namespace State

variable (s : State)

theorem policies_updScreen (i : Fin 6) (f : Screen → Screen) : (s.updScreen i f).policies i = (f s.screens[i]).policies := by
  rw [policies, updScreen_screens, vmod_at]

theorem policies_post (subject : Nat) (r : ReportRecord) (i : Fin 6) : (s.post subject r).policies i = s.policies i := rfl

/-- An event of the screen unit, with its notice where the condition says that a policy changed. -/
theorem withPolicyNotice_iff {i : Fin 6} {f : State → State} {t : State} {P : Prop} [Decidable P] (h : f s = t)
    (hp : t.policies i = s.policies i ↔ P) : s.withPolicyNotice i f = if P then t else t.hand (.policy i) := by
  rw [withPolicyNotice_of s i f h]
  exact if_congr hp rfl rfl

theorem withPolicyNotice_same {i : Fin 6} {f : State → State} {t : State} (h : f s = t) (hp : t.policies i = s.policies i) :
    s.withPolicyNotice i f = t := by
  rw [withPolicyNotice_of s i f h, if_pos hp]

theorem withPolicyNotice_changed {i : Fin 6} {f : State → State} {t : State} (h : f s = t)
    (hp : t.policies i ≠ s.policies i) : s.withPolicyNotice i f = t.hand (.policy i) := by
  rw [withPolicyNotice_of s i f h, if_neg hp]

/-! ## Entering states -/

theorem postState_eq {i : Fin 6} {c : Screen} (h : s.screens[i] = c) (left : ScreenState) (why : StateReason) :
    s.postState i left why =
      s.post i.val (.screenState left c.state why (if c.state = .holding then c.holdReason else .none) c.bound) := by
  rw [postState, h]

theorem updScreen_postState (i : Fin 6) (f : Screen → Screen) (left : ScreenState) (why : StateReason) :
    (s.updScreen i f).postState i left why = (s.updScreen i f).post i.val (.screenState left (f s.screens[i]).state why
      (if (f s.screens[i]).state = .holding then (f s.screens[i]).holdReason else .none) (f s.screens[i]).bound) :=
  postState_eq _ (by rw [updScreen_screens, vmod_at]) left why

theorem runScreen_eq (i : Fin 6) (why : StateReason) : s.runScreen i why = (s.updScreen i Screen.toRunning).post i.val
    (.screenState s.screens[i].state .running why .none s.screens[i].bound) :=
  s.updScreen_postState i _ _ _

theorem holdScreen_eq (i : Fin 6) (reason : HoldReason) (why : StateReason) : s.holdScreen i reason why =
    (s.updScreen i (·.toHolding reason)).post i.val
      (.screenState s.screens[i].state .holding why reason s.screens[i].bound) :=
  s.updScreen_postState i _ _ _

/-- After its teardown a screen is as before it, without its binding. -/
theorem screen_teardown (i : Fin 6) : (s.teardown i).screens[i] = { s.screens[i] with bound := none } := by
  rw [teardown_screens, vmod_at]

theorem teardown_postState (i : Fin 6) (f : Screen → Screen) (left : ScreenState) (why : StateReason)
    (h : (f s.screens[i]).state ≠ .holding) : ((s.updScreen i f).teardown i).postState i left why =
      ((s.updScreen i f).teardown i).post i.val (.screenState left (f s.screens[i]).state why .none none) := by
  rw [postState_eq _ ((screen_teardown _ i).trans (by rw [updScreen_screens, vmod_at]))]
  dsimp only
  rw [if_neg h]

theorem enterClosing_eq (i : Fin 6) (why : StateReason) : s.enterClosing i why =
    ((s.updScreen i Screen.toClosing).teardown i).post i.val
      (.screenState s.screens[i].state .closing why .none none) :=
  s.teardown_postState i Screen.toClosing _ _ (by nofun)

theorem endProgram_ready {i : Fin 6} (h : s.screens[i].autoClose = false) : s.endProgram i =
    (s.updScreen i Screen.toReady).post i.val
      (.screenState s.screens[i].state .ready .programEnd .none s.screens[i].bound) := by
  rw [endProgram, h, if_neg (by nofun)]
  exact s.updScreen_postState i _ _ _

theorem endProgram_closing {i : Fin 6} (h : s.screens[i].autoClose = true) : s.endProgram i =
    ((s.updScreen i Screen.toClosing).teardown i).post i.val
      (.screenState s.screens[i].state .closing .programEnd .none none) := by
  rw [endProgram, h, if_pos rfl, enterClosing_eq]

theorem policies_teardown (i : Fin 6) : (s.teardown i).policies i = s.policies i := by
  rw [policies, screen_teardown]
  rfl

/-! ## Segments -/

theorem startSegment_eq {i : Fin 6} {index : Nat} {g : Segment} (h : s.screens[i].segments[index]? = some g) :
    s.startSegment i index = ((s.updScreen i fun c => { c with position := some ⟨index, 0⟩ }).fireAt i ⟨index, 0⟩).post i.val
      (.segment index g) := by
  rw [startSegment]
  simp only [h]

theorem policies_startSegment {i : Fin 6} {index : Nat} {g : Segment} (h : s.screens[i].segments[index]? = some g) :
    (s.startSegment i index).policies i = { s.screens[i] with position := some ⟨index, 0⟩ }.policies := by
  rw [startSegment_eq s h, policies_post, (fireAt_frame _ i _).policies, policies_updScreen]

theorem segments_eq {i : Fin 6} {prog : List Segment} (h : s.screens[i].program = some prog) : s.screens[i].segments = prog := by
  rw [Screen.segments, h, Option.getD_some]

theorem hasNext_iff {i : Fin 6} {prog : List Segment} (h : s.screens[i].program = some prog) (index : Nat) :
    s.hasNext i index = true ↔ index + 1 < prog.length := by
  rw [hasNext, segments_eq s h, decide_eq_true_eq]

/-! ## The arbiter -/

theorem examine_nil (h : s.strikeQueue = []) : s.examine = s := by rw [examine, h]

theorem supplyFree_iff : s.supplyFree = true ↔ s.spacing = none ∧ ∀ i : Fin 6, s.screens[i].state ≠ .striking := by
  rw [supplyFree, Bool.and_eq_true, Option.isNone_iff_eq_none, List.all_eq_true]
  exact and_congr_right fun _ => ⟨fun h i => bne_iff_ne.1 (h i (mem_allScreens i)), fun h i _ => bne_iff_ne.2 (h i)⟩

theorem examine_busy (h : ¬ s.supplyFree = true) : s.examine = s := by
  unfold examine
  split
  · rfl
  · rw [if_neg h]

theorem examine_free {i : Fin 6} {rest : List (Fin 6)} (hq : s.strikeQueue = i :: rest) (h : s.supplyFree = true) :
    s.examine = s.grantStrike i rest := by
  unfold examine
  split
  · next e => rw [hq] at e; cases e
  · next e => rw [hq] at e; cases e; rw [if_pos h]

theorem grantStrike_eq (i : Fin 6) (rest : List (Fin 6)) : s.grantStrike i rest = ({ s with
    strikeQueue := rest
    spacing := if s.site.spacing > 0 then .start (s.site.spacing * Config.second) else s.spacing }.updScreen i fun c =>
      { c with state := .striking, strikeTimer := .start (c.strikeTime * Config.second) }).post i.val
    (.screenState s.screens[i].state .striking .grant .none s.screens[i].bound) :=
  updScreen_postState _ i _ _ _

end State

/-- Settles O20. -/
theorem arbiterGrantsTheHead : Obligations.ArbiterGrantsTheHead := by
  intro s
  refine ⟨s.examine_nil, fun h => s.examine_busy fun hfree => ?_, fun i rest hq hw hno hsp => ?_, fun ms hp hs => ?_,
    fun i ms hp hs ht => ?_⟩
  · obtain ⟨hsp, hno⟩ := s.supplyFree_iff.1 hfree
    exact h.elim (fun ⟨i, hi⟩ => hno i hi) (· hsp)
  · rw [s.examine_free hq (s.supplyFree_iff.2 ⟨hsp, hno⟩), State.grantStrike_eq, hw, hsp]
    by_cases h0 : s.site.spacing = 0
    · rw [if_neg (by omega), if_pos h0]; rfl
    · rw [if_pos (by omega), if_neg h0]; rfl
  · change Host.Outcome.next _ = _
    rw [State.ifPowered, if_pos hp, hs]
  · change Host.Outcome.next _ = _
    rw [State.ifPowered, if_pos hp, hs, ht]
    dsimp only
    rw [s.withPolicyNotice_same (s.updScreen_postState i _ _ _)]
    · rfl
    · refine (s.policies_updScreen i _).trans ?_
      rw [Screen.policies_of_waiting (by simp), State.policies, Screen.policies_of_waiting (by simp [-Fin.getElem_fin, hs])]

/-! ## STRIKE -/

namespace State

variable (s : State)

/-- The lowest FREE record (R125). -/
theorem freeRecord_lowest {r : Fin 16} (hr : s.book.records[r].state = .free)
    (hlow : ∀ q : Fin 16, q < r → s.book.records[q].state ≠ .free) : s.freeRecord = some r := by
  cases h : s.freeRecord with
  | none => exact absurd (beq_iff_eq.2 hr) (List.find?_eq_none.1 h r (mem_allRecords r))
  | some q =>
    have hq := s.freeRecord_free h
    have hqr : ¬ q < r := fun hlt => hlow q hlt hq
    obtain ⟨_, as, bs, heq, hbefore⟩ := List.find?_eq_some_iff_append.1 h
    have hsorted : allRecords.Pairwise (· < ·) := by decide
    have hrq : ¬ r < q := fun hlt => by
      have hmem := mem_allRecords r
      rw [heq, List.mem_append, List.mem_cons] at hmem
      rw [heq, List.pairwise_append, List.pairwise_cons] at hsorted
      rcases hmem with hmem | rfl | hmem
      · exact absurd hr (by simpa using hbefore r hmem)
      · exact lt_irrefl _ hlt
      · exact lt_asymm hlt (hsorted.2.1.1 r hmem)
    exact congrArg some (le_antisymm (not_lt.1 hrq) (not_lt.1 hqr))

theorem freeRecord_none (h : ∀ r : Fin 16, s.book.records[r].state ≠ .free) : s.freeRecord = none :=
  List.find?_eq_none.2 fun r _ hr => h r (beq_iff_eq.1 hr)

theorem strikeEffect_accepted {b : Byte} {i : Fin 6} {r : Fin 16} (hb : b.toNat = i.val) (hd : s.screens[i].state = .dark)
    (hr : s.freeRecord = some r) : strikeEffect b s = (s.acceptStrike i r, .ok (u8 r.val ++ u16 s.book.nextShow)) := by
  rw [strikeEffect, unit_eq hb]
  dsimp only
  rw [hd, hr]

end State

/-- Settles O18: DARK admits nobody and STRIKE_WAIT everybody, so the policy notice goes. -/
theorem strikeOpensARecordAndQueues : Obligations.StrikeOpensARecordAndQueues := by
  intro s tag b i r n ht hb hd hr hlow hn
  subst hn
  rw [State.exec_accepted (r := .strike b) rfl ht (s.strikeEffect_accepted hb hd (s.freeRecord_lowest hr hlow)), State.acceptStrike,
    s.withPolicyNotice_changed (t := { s with
      book := (s.openRecord r i).book
      screens := vmod s.screens i fun c => { c with state := .strikeWait, bound := some r }
      strikeQueue := s.strikeQueue ++ [i]
      link := s.link.postReport ⟨s.book.siteTime, i.val, .screenState .dark .strikeWait .strike .none (some r)⟩ }) ?_ ?_]
  · rfl
  · dsimp only
    rw [State.updScreen_postState]
    rfl
  · have hnew : (vmod s.screens i fun c => { c with state := .strikeWait, bound := some r })[i].policies =
        ⟨.admitAll, .opened, .opened⟩ := by
      rw [vmod_at]
      exact Screen.policies_of_waiting (by simp)
    rw [State.policies, hnew, State.policies, Screen.policies_of_closed (by simp [-Fin.getElem_fin, hd])]
    decide

end Sys2Proof.Machine
end

section
/-! GO, HOLD, RESUME, SKIP, STOP and the frame pulse (O21 to O24, O26). -/

namespace Sys2Proof.Machine

namespace State

variable (s : State)

/-! ## GO -/

/-- Entry to RUNNING by GO: one change of the screen and its report. -/
theorem runScreen_go (i : Fin 6) (autoClose : Bool) {r : Fin 16} (h : s.screens[i].state = .ready)
    (hr : s.screens[i].bound = some r) : (s.updScreen i fun c => { c with autoClose := autoClose }).runScreen i .go = { s with
      screens := vmod s.screens i fun c =>
        { c with state := .running, autoClose := autoClose, holdReason := .none, frameLossTimer := some 500 }
      link := s.link.postReport ⟨s.book.siteTime, i.val, .screenState .ready .running .go .none (some r)⟩ } := by
  rw [runScreen_eq, updScreen_screens, vmod_at, h, hr]
  simp only [updScreen, vmod_vmod]
  rfl

theorem countProgram_eq {i : Fin 6} {r : Fin 16} {n : Nat} (hb : s.screens[i].bound = some r)
    (hs : s.book.records[r].state = .opened) (hn : s.book.records[r].show_ = some n) :
    s.countProgram i = s.updRecord r fun c => { c with counts := c.counts.addProgram } := by
  rw [countProgram, hb]
  dsimp only
  rw [showOf_eq hn, count_opened hs hn]

theorem cueCheck_iff (table : List CueEntry) (prog : List Segment) :
    cueCheck table prog = true ↔ ∀ e ∈ table, ∃ x, prog[e.segment]? = some x ∧ e.offset < x.length := by
  rw [cueCheck, List.all_eq_true]
  refine forall₂_congr fun e _ => ?_
  cases prog[e.segment]? with
  | none => exact ⟨nofun, nofun⟩
  | some x => simp

theorem goEffect_checks {b bg ba : Byte} {i : Fin 6} {prog : List Segment} (hb : b.toNat = i.val) (hg : bg.toNat ≤ 31)
    (hs : s.screens[i].state = .ready) (hp : s.screens[i].program = some prog) : goEffect b bg ba s =
      if bg.toNat ≥ prog.length then (s, .refused .outOfRange)
      else if !cueCheck s.cues[i].table prog then (s, .refused .cueRange)
      else (s.acceptGo i bg.toNat (flagOf ba), .ok []) := by
  rw [goEffect, unit_eq hb]
  dsimp only
  rw [if_neg (by omega), if_neg (not_not.2 hs), hp]

end State

/-- Settles O21. -/
theorem goStartsTheProgram : Obligations.GoStartsTheProgram := by
  refine ⟨fun s tag b bg ba i prog g r n ht hb hbg hs hp hg hcue hbound hopen hshow s1 s2 s3 h1 h2 h3 => ?_,
    fun s tag b bg ba ht => ⟨fun h => ?_, fun i hb hbg => ⟨fun hs => ?_, fun hs hp => ?_, fun prog hs hp => ⟨fun hlen => ?_,
      fun hlen hcue => ?_⟩⟩⟩⟩
  · have hlt : bg.toNat < prog.length := (List.getElem?_eq_some_iff.1 hg).1
    have heff : goEffect b bg ba s = (s.acceptGo i bg.toNat (flagOf ba), .ok []) := by
      rw [s.goEffect_checks hb hbg hs hp, if_neg (Nat.not_le.2 hlt), (State.cueCheck_iff _ _).2 hcue]
      rfl
    have hrun : (s.updScreen i fun c => { c with autoClose := flagOf ba }).runScreen i .go = s1 :=
      (s.runScreen_go i _ hs hbound).trans h1.symm
    have hscreen : s1.screens[i] = { s.screens[i] with
        state := .running, autoClose := ba != 0, holdReason := .none, frameLossTimer := some 500 } := by
      rw [h1, vmod_at]
    have hcount : s1.countProgram i = s2 := by
      rw [s1.countProgram_eq (by rw [hscreen]; exact hbound) (by rw [h1]; exact hopen) (by rw [h1]; exact hshow), h2, h1]
      rfl
    have hseg : s2.screens[i].segments[bg.toNat]? = some g := by
      rw [s2.segments_eq (prog := prog) (by rw [h2]; dsimp only; rw [hscreen]; exact hp)]
      exact hg
    have hstart : s2.startSegment i bg.toNat = s3 := by
      rw [s2.startSegment_eq hseg, h3]
      rfl
    have hpol : s3.policies i = ⟨g.gate, g.order, g.announce⟩ := by
      rw [← hstart, s2.policies_startSegment hseg]
      have hscreen2 : s2.screens[i] = s1.screens[i] := by rw [h2]
      refine Screen.policies_of_running ?_ (Screen.current_eq (prog := prog) rfl ?_ hg)
      · rw [hscreen2, hscreen]
      · rw [hscreen2, hscreen]; exact hp
    rw [State.exec_accepted (r := .go b bg ba) rfl ht heff, State.acceptGo,
      s.withPolicyNotice_iff (t := s3) (P := g.gate = .admitAll ∧ g.order = .opened ∧ g.announce = .opened)]
    · rw [hrun, hcount, hstart]
    · rw [hpol, State.policies, Screen.policies_of_waiting (by simp [-Fin.getElem_fin, hs]), Policies.mk.injEq]
  · refine State.exec_refused (r := .go b bg ba) rfl ht ?_
    rw [requestEffect, goEffect]
    split
    · rfl
    · next hb =>
      rw [if_pos]
      have hlt := unit_iff.1 hb
      omega
  · refine State.exec_refused (r := .go b bg ba) rfl ht ?_
    rw [requestEffect, goEffect, unit_eq hb]
    dsimp only
    rw [if_neg (by omega), if_pos hs]
  · refine State.exec_refused (r := .go b bg ba) rfl ht ?_
    rw [requestEffect, goEffect, unit_eq hb]
    dsimp only
    rw [if_neg (by omega), if_neg (not_not.2 hs), hp]
  · refine State.exec_refused (r := .go b bg ba) rfl ht ?_
    rw [requestEffect, s.goEffect_checks hb hbg hs hp, if_pos hlen]
  · refine State.exec_refused (r := .go b bg ba) rfl ht ?_
    have hfail : cueCheck s.cues[i].table prog = false := by
      rw [Bool.eq_false_iff]
      intro hc
      obtain ⟨e, he, hout⟩ := hcue
      obtain ⟨x, hx, hlt⟩ := (State.cueCheck_iff _ _).1 hc e he
      exact absurd hlt (Nat.not_lt.2 (hout x hx))
    rw [requestEffect, s.goEffect_checks hb hbg hs hp, if_neg (Nat.not_le.2 hlen), hfail]
    rfl

/-! ## HOLD, the loss of the picture, and RESUME where it was held -/

namespace State

variable (s : State)

/-- A RUNNING screen is held: its announce policy opens, which is a change unless it was OPEN (R11). -/
theorem hold_running {i : Fin 6} (reason : HoldReason) (why : StateReason) (h : s.screens[i].state = .running) :
    (s.withPolicyNotice i fun s => s.holdScreen i reason why) = { s with
      screens := vmod s.screens i fun c => { c with state := .holding, holdReason := reason, frameLossTimer := none }
      notices := if (s.policies i).announce = AnnouncePolicy.opened then s.notices else s.notices ++ [Notice.policy i]
      link := s.link.postReport ⟨s.book.siteTime, i.val, .screenState .running .holding why reason s.screens[i].bound⟩ } := by
  have hpol : ((s.updScreen i (·.toHolding reason)).post i.val (.screenState s.screens[i].state .holding why reason
      s.screens[i].bound)).policies i = s.policies i ↔ (s.policies i).announce = .opened := by
    rw [policies_post, policies_updScreen, Screen.policies_toHolding h]
    change { s.policies i with announce := .opened } = s.policies i ↔ _
    generalize s.policies i = p
    cases p
    simp [eq_comm]
  rw [s.withPolicyNotice_iff (s.holdScreen_eq i reason why) hpol, h]
  split
  · rfl
  · rfl

/-- A HOLDING screen goes on where it was held: the segment's announce policy comes back (R11, R18). -/
theorem run_held {i : Fin 6} {p : Position} {prog : List Segment} {g : Segment} (why : StateReason)
    (h : s.screens[i].state = .holding) (hp : s.screens[i].position = some p) (hprog : s.screens[i].program = some prog)
    (hg : prog[p.segment]? = some g) : (s.withPolicyNotice i fun s => s.runScreen i why) = { s with
      screens := vmod s.screens i fun c => { c with state := .running, holdReason := .none, frameLossTimer := some 500 }
      notices := if g.announce = AnnouncePolicy.opened then s.notices else s.notices ++ [Notice.policy i]
      link := s.link.postReport ⟨s.book.siteTime, i.val, .screenState .holding .running why .none s.screens[i].bound⟩ } := by
  have hcur := Screen.current_eq hp hprog hg
  have hpol : ((s.updScreen i Screen.toRunning).post i.val (.screenState s.screens[i].state .running why .none
      s.screens[i].bound)).policies i = s.policies i ↔ g.announce = .opened := by
    have hnew : (Screen.toRunning s.screens[i]).policies = ⟨g.gate, g.order, g.announce⟩ :=
      Screen.policies_of_running rfl ((Screen.current_of rfl rfl).trans hcur)
    rw [policies_post, policies_updScreen, hnew, policies, Screen.policies_of_holding h hcur, Policies.mk.injEq]
    exact ⟨fun e => e.2.2, fun e => ⟨rfl, rfl, e⟩⟩
  rw [s.withPolicyNotice_iff (s.runScreen_eq i why) hpol, h]
  split
  · rfl
  · rfl

theorem holdEffect_running {b : Byte} {i : Fin 6} (hb : b.toNat = i.val) (h : s.screens[i].state = .running) :
    holdEffect b s = (s.withPolicyNotice i fun s => s.holdScreen i .operator .operator, .ok []) := by
  rw [holdEffect, unit_eq hb]
  dsimp only
  rw [h]

theorem holdEffect_holding {b : Byte} {i : Fin 6} (hb : b.toNat = i.val) (h : s.screens[i].state = .holding) :
    holdEffect b s = (s, .ok []) := by
  rw [holdEffect, unit_eq hb]
  dsimp only
  rw [h]

theorem resumeEffect_holding {b : Byte} {i : Fin 6} {p : Position} (hb : b.toNat = i.val)
    (h : s.screens[i].state = .holding) (hp : s.screens[i].position = some p) :
    resumeEffect b s = (s.resumeScreen i p, .ok []) := by
  rw [resumeEffect, unit_eq hb]
  dsimp only
  rw [h, hp]

end State

/-- Settles O22. -/
theorem holdFrameLossAndResume : Obligations.HoldFrameLossAndResume := by
  refine ⟨fun s tag b i hb => ⟨fun ht h => ?_, fun ht h => ?_, fun ms hp h htimer => ?_⟩,
    fun s tag b i p prog g ht hb h hwhy hp hprog hg => ?_⟩
  · rw [State.exec_accepted (r := .hold b) rfl ht (s.holdEffect_running hb h), s.hold_running _ _ h]
  · exact State.exec_query (r := .hold b) rfl ht (s.holdEffect_holding hb h)
  · change Host.Outcome.next _ = _
    rw [State.ifPowered, if_pos hp, h, htimer]
    dsimp only
    rw [s.hold_running _ _ h]
  · rw [State.exec_accepted (r := .resume b) rfl ht (s.resumeEffect_holding hb h hp), ← s.run_held .resume h hp hprog hg,
      State.resumeScreen]
    refine congrArg (fun f => Host.Outcome.next (State.replied f tag [])) ?_
    simp only [State.withPolicyNotice, if_neg hwhy]

/-! ## Moving on -/

namespace State

variable (s : State)

/-- A HOLDING screen that moves on starts the segment that follows (R18, R19). -/
theorem moveOn_next {i : Fin 6} {p : Position} {prog : List Segment} {g' : Segment} (why : StateReason)
    (h : s.screens[i].state = .holding) (hprog : s.screens[i].program = some prog)
    (hg : prog[p.segment + 1]? = some g') : s.moveOn i p why = ({ s with
      screens := vmod s.screens i fun x => { x with
        state := .running, holdReason := .none, frameLossTimer := some 500, position := some ⟨p.segment + 1, 0⟩ }
      link := s.link.postReport ⟨s.book.siteTime, i.val, .screenState .holding .running why .none s.screens[i].bound⟩
      }.fireAt i ⟨p.segment + 1, 0⟩).post i.val (.segment (p.segment + 1) g') := by
  have hseg : (s.runScreen i why).screens[i].segments[p.segment + 1]? = some g' := by
    rw [runScreen_eq, post_screens, updScreen_screens, vmod_at]
    change s.screens[i].segments[p.segment + 1]? = some g'
    rw [s.segments_eq hprog]
    exact hg
  rw [moveOn, if_pos ((s.hasNext_iff hprog _).2 (List.getElem?_eq_some_iff.1 hg).1), startSegment_eq _ hseg, runScreen_eq, h]
  simp only [updScreen, post, updLink, vmod_vmod]
  rfl

theorem policies_moveOn_next {i : Fin 6} {p : Position} {prog : List Segment} {g' : Segment} (why : StateReason)
    (hprog : s.screens[i].program = some prog) (hg : prog[p.segment + 1]? = some g') :
    (s.moveOn i p why).policies i = ⟨g'.gate, g'.order, g'.announce⟩ := by
  have hscreen : (s.runScreen i why).screens[i] = s.screens[i].toRunning := by
    rw [runScreen_eq, post_screens, updScreen_screens, vmod_at]
  have hprog' : (s.runScreen i why).screens[i].program = some prog := by
    rw [hscreen]
    exact hprog
  have hseg : (s.runScreen i why).screens[i].segments[p.segment + 1]? = some g' := by
    rw [segments_eq _ hprog']
    exact hg
  rw [moveOn, if_pos ((s.hasNext_iff hprog _).2 (List.getElem?_eq_some_iff.1 hg).1), policies_startSegment _ hseg]
  refine Screen.policies_of_running ?_ (Screen.current_eq (prog := prog) rfl hprog' hg)
  rw [hscreen]
  rfl

theorem moveOn_last {i : Fin 6} {p : Position} {prog : List Segment} (why : StateReason)
    (hprog : s.screens[i].program = some prog) (hlen : prog.length ≤ p.segment + 1) : s.moveOn i p why = s.endProgram i := by
  rw [moveOn, if_neg fun h => absurd ((s.hasNext_iff hprog _).1 h) (Nat.not_lt.2 hlen)]

theorem policies_toReady (i : Fin 6) (subject : Nat) (r : ReportRecord) :
    ((s.updScreen i Screen.toReady).post subject r).policies i = ⟨.admitAll, .opened, .opened⟩ := by
  rw [policies_post, policies_updScreen]
  exact Screen.policies_of_waiting (by simp [Screen.toReady])

theorem policies_toClosing (i : Fin 6) (subject : Nat) (r : ReportRecord) :
    (((s.updScreen i Screen.toClosing).teardown i).post subject r).policies i = ⟨.closed, .closed, .opened⟩ := by
  rw [policies_post, policies_teardown, policies_updScreen]
  exact Screen.policies_of_closed (by simp [Screen.toClosing])

theorem skipEffect_holding {b : Byte} {i : Fin 6} {p : Position} (hb : b.toNat = i.val)
    (h : s.screens[i].state = .holding) (hp : s.screens[i].position = some p) :
    skipEffect b s = (s.withPolicyNotice i fun s => s.moveOn i p .skip, .ok []) := by
  rw [skipEffect, unit_eq hb]
  dsimp only
  rw [h, hp]

theorem skipEffect_running {b : Byte} {i : Fin 6} {p : Position} (hb : b.toNat = i.val)
    (h : s.screens[i].state = .running) (hp : s.screens[i].position = some p) :
    skipEffect b s = (s.skipRunning i p, .ok []) := by
  rw [skipEffect, unit_eq hb]
  dsimp only
  rw [h, hp]

/-- RESUME of a screen held at end and SKIP of a HOLDING one are the same move (R18, R19). -/
theorem exec_moveOn {tag b : Byte} {i : Fin 6} {p : Position} {c : Instr} {why : StateReason}
    (hc : (c = .resume tag b ∧ why = .resume ∧ s.screens[i].holdReason = .segmentHold) ∨ (c = .skip tag b ∧ why = .skip))
    (ht : s.takes tag) (hb : b.toNat = i.val) (h : s.screens[i].state = .holding) (hp : s.screens[i].position = some p) :
    exec c s = .next ((s.withPolicyNotice i fun s => s.moveOn i p why).replied tag []) := by
  rcases hc with ⟨rfl, rfl, hwhy⟩ | ⟨rfl, rfl⟩
  · rw [exec_accepted (r := .resume b) rfl ht (s.resumeEffect_holding hb h hp), resumeScreen]
    refine congrArg (fun f => Host.Outcome.next (State.replied f tag [])) ?_
    simp only [withPolicyNotice, if_pos hwhy]
  · exact exec_accepted (r := .skip b) rfl ht (s.skipEffect_holding hb h hp)

end State

namespace State

variable (s : State)

/-- The segment that follows starts in RUNNING, after a change of the screen that leaves state and program. -/
theorem startSegment_running {i : Fin 6} {f : Screen → Screen} {prog : List Segment} {index : Nat} {g' : Segment}
    (hs : (f s.screens[i]).state = .running) (hprog : (f s.screens[i]).program = some prog) (hg : prog[index]? = some g') :
    (s.updScreen i f).startSegment i index = ((s.updScreen i fun c => { f c with position := some ⟨index, 0⟩ }).fireAt i
      ⟨index, 0⟩).post i.val (.segment index g')
    ∧ ((s.updScreen i f).startSegment i index).policies i = ⟨g'.gate, g'.order, g'.announce⟩ := by
  have hscreen : (s.updScreen i f).screens[i] = f s.screens[i] := by rw [updScreen_screens, vmod_at]
  have hseg : (s.updScreen i f).screens[i].segments[index]? = some g' := by
    rw [segments_eq _ (by rw [hscreen]; exact hprog)]
    exact hg
  constructor
  · rw [startSegment_eq _ hseg]
    simp only [updScreen, vmod_vmod]
  · rw [policies_startSegment _ hseg, hscreen]
    exact Screen.policies_of_running hs (Screen.current_eq rfl hprog hg)

/-- The screen that ends its program in READY, and whether a policy changed (R9, R11). -/
theorem policies_ready_iff {i : Fin 6} {g : Segment} {q : Policies} (hq : q = ⟨g.gate, g.order, g.announce⟩) (subject : Nat)
    (r : ReportRecord) : ((s.updScreen i Screen.toReady).post subject r).policies i = q
      ↔ g.gate = .admitAll ∧ g.order = .opened ∧ g.announce = .opened := by
  rw [policies_toReady, hq, Policies.mk.injEq, eq_comm (b := g.gate), eq_comm (b := g.order), eq_comm (b := g.announce)]

theorem policies_closing_iff {i : Fin 6} {g : Segment} {q : Policies} (hq : q = ⟨g.gate, g.order, g.announce⟩) (subject : Nat)
    (r : ReportRecord) : (((s.updScreen i Screen.toClosing).teardown i).post subject r).policies i = q
      ↔ g.gate = .closed ∧ g.order = .closed ∧ g.announce = .opened := by
  rw [policies_toClosing, hq, Policies.mk.injEq, eq_comm (b := g.gate), eq_comm (b := g.order), eq_comm (b := g.announce)]

end State

/-- Settles O23: `moveOn` and `skipRunning` in each of their branches. -/
theorem resumeAndSkipMoveOn : Obligations.ResumeAndSkipMoveOn := by
  refine ⟨fun s tag b i p prog c why hc ht hb h hp hprog => ⟨fun g g' hg hg' s1 h1 => ?_, fun g hg hlen hauto s1 h1 => ?_,
    fun g hg hlen hauto s1 h1 => ?_⟩, fun s tag b i p prog g ht hb h hp hprog hg => ⟨fun g' hg' s1 h1 => ?_,
    fun hlen hauto s1 h1 => ?_, fun hlen hauto s1 h1 => ?_⟩⟩
  · have hmove : s.moveOn i p why = s1 := (s.moveOn_next why h hprog hg').trans h1.symm
    have hpol : s1.policies i = s.policies i ↔ g'.gate = g.gate ∧ g'.order = g.order ∧ g'.announce = .opened := by
      rw [← hmove, s.policies_moveOn_next why hprog hg', State.policies,
        Screen.policies_of_holding h (Screen.current_eq hp hprog hg), Policies.mk.injEq]
    rw [s.exec_moveOn hc ht hb h hp, s.withPolicyNotice_iff hmove hpol]
  · have hmove : s.moveOn i p why = (s.updScreen i Screen.toReady).post i.val
        (.screenState s.screens[i].state .ready .programEnd .none s.screens[i].bound) := by
      rw [s.moveOn_last why hprog hlen, s.endProgram_ready hauto]
    have hpol : ((s.updScreen i Screen.toReady).post i.val
        (.screenState s.screens[i].state .ready .programEnd .none s.screens[i].bound)).policies i = s.policies i
          ↔ g.gate = .admitAll ∧ g.order = .opened := by
      rw [s.policies_toReady, State.policies, Screen.policies_of_holding h (Screen.current_eq hp hprog hg), Policies.mk.injEq,
        eq_comm (b := g.gate), eq_comm (b := g.order)]
      simp only [and_true]
    rw [s.exec_moveOn hc ht hb h hp, s.withPolicyNotice_iff hmove hpol, h, h1]
    rfl
  · have hmove : s.moveOn i p why = ((s.updScreen i Screen.toClosing).teardown i).post i.val
        (.screenState s.screens[i].state .closing .programEnd .none none) := by
      rw [s.moveOn_last why hprog hlen, s.endProgram_closing hauto]
    have hpol : (((s.updScreen i Screen.toClosing).teardown i).post i.val
        (.screenState s.screens[i].state .closing .programEnd .none none)).policies i = s.policies i
          ↔ g.gate = .closed ∧ g.order = .closed := by
      rw [s.policies_toClosing, State.policies, Screen.policies_of_holding h (Screen.current_eq hp hprog hg),
        Policies.mk.injEq, eq_comm (b := g.gate), eq_comm (b := g.order)]
      simp only [and_true]
    rw [s.exec_moveOn hc ht hb h hp, s.withPolicyNotice_iff hmove hpol, h, h1]
    rfl
  all_goals
    have hpol : s.policies i = ⟨g.gate, g.order, g.announce⟩ :=
      Screen.policies_of_running h (Screen.current_eq hp hprog hg)
    rw [State.exec_accepted (r := .skip b) rfl ht (s.skipEffect_running hb h hp), State.skipRunning]
  · have hnext := (s.hasNext_iff hprog p.segment).2 (List.getElem?_eq_some_iff.1 hg').1
    obtain ⟨heq, hnew⟩ := s.startSegment_running (i := i)
      (f := fun c => { c with frameLossTimer := .start Config.frameLossMs }) h hprog hg'
    rw [s.withPolicyNotice_iff (t := s1) (P := g'.gate = g.gate ∧ g'.order = g.order ∧ g'.announce = g.announce)]
    · rw [if_pos hnext, heq, h1]
      rfl
    · rw [show s1 = _ from h1.trans heq.symm, hnew, hpol, Policies.mk.injEq]
  · have hlast : ¬ s.hasNext i p.segment = true := fun hn => absurd ((s.hasNext_iff hprog _).1 hn) (Nat.not_lt.2 hlen)
    rw [s.withPolicyNotice_iff (t := s1) (P := g.gate = .admitAll ∧ g.order = .opened ∧ g.announce = .opened)]
    · rw [if_neg hlast, s.endProgram_ready hauto, h, h1]
      rfl
    · rw [h1]
      exact s.policies_ready_iff hpol _ _
  · have hlast : ¬ s.hasNext i p.segment = true := fun hn => absurd ((s.hasNext_iff hprog _).1 hn) (Nat.not_lt.2 hlen)
    rw [s.withPolicyNotice_iff (t := s1) (P := g.gate = .closed ∧ g.order = .closed ∧ g.announce = .opened)]
    · rw [if_neg hlast, s.endProgram_closing hauto, h, h1]
      rfl
    · rw [h1]
      exact s.policies_closing_iff hpol _ _

/-! ## FRAME_PULSE -/

namespace State

variable (s : State)

/-- The state after a FRAME pulse is counted and the cues of its position have fired (R6, R29). -/
def counted (i : Fin 6) (q : Position) : State :=
  (s.updScreen i fun c => { c with position := some q, frameLossTimer := .start Config.frameLossMs }).fireAt i q

theorem counted_screens (i : Fin 6) (q : Position) : (s.counted i q).screens[i] =
    { s.screens[i] with position := some q, frameLossTimer := .start Config.frameLossMs } := by
  rw [counted, (fireAt_frame _ i q).screens, updScreen_screens, vmod_at]

theorem countFrame_eq {i : Fin 6} {p : Position} {prog : List Segment} {g : Segment} (hprog : s.screens[i].program = some prog)
    (hg : prog[p.segment]? = some g) : s.countFrame i p = if p.frame + 1 = g.length then
      (s.counted i ⟨p.segment, p.frame + 1⟩).endSegment i p.segment g.holdAtEnd
    else s.counted i ⟨p.segment, p.frame + 1⟩ := by
  rw [countFrame, segments_eq s hprog]
  simp only [hg, counted]

theorem exec_framePulse {i : Fin 6} {p : Position} (hpow : s.powered = true) (h : s.screens[i].state = .running)
    (hp : s.screens[i].position = some p) :
    exec (.framePulse i) s = .next (s.withPolicyNotice i fun s => s.countFrame i p) := by
  change Host.Outcome.next _ = _
  rw [ifPowered, if_pos hpow, h, hp]

end State

/-- Settles O26: a pulse is counted, and the last of a segment ends it in one of four ways. -/
theorem framePulses : Obligations.FramePulses := by
  refine ⟨fun s i hpow => ⟨fun h => ?_, fun p prog g h hp hprog hg hne => ?_⟩,
    fun s s1 i p prog g hpow h hp hprog hg hlast h1 => ⟨fun hhold t ht => ?_, fun g' hhold hg' t ht => ?_,
      fun hhold hlen hauto t ht => ?_, fun hhold hlen hauto t ht => ?_⟩⟩
  · change Host.Outcome.next _ = _
    rw [State.ifPowered, if_pos hpow]
    split
    · next hr _ => exact absurd hr h
    · rfl
  · rw [s.exec_framePulse hpow h hp, s.withPolicyNotice_same ((s.countFrame_eq hprog hg).trans (if_neg hne))]
    · rfl
    · rw [State.policies, s.counted_screens, State.policies, Screen.policies_of_running h (Screen.current_eq hp hprog hg)]
      exact Screen.policies_of_running h (Screen.current_eq rfl hprog hg)
  all_goals
    have hpol : s.policies i = ⟨g.gate, g.order, g.announce⟩ :=
      Screen.policies_of_running h (Screen.current_eq hp hprog hg)
    have hcounted : s.counted i ⟨p.segment, p.frame + 1⟩ = s1 := by rw [hlast]; exact h1.symm
    have hscreen : s1.screens[i] = { s.screens[i] with
        position := some ⟨p.segment, g.length⟩, frameLossTimer := .start Config.frameLossMs } := by
      rw [← hcounted, hlast, s.counted_screens]
    have hprog1 : s1.screens[i].program = some prog := by rw [hscreen]; exact hprog
    have hframe : s.countFrame i p = s1.endSegment i p.segment g.holdAtEnd := by
      rw [s.countFrame_eq hprog hg, if_pos hlast, hcounted]
    rw [s.exec_framePulse hpow h hp]
  · have hend : s.countFrame i p = t := by
      rw [hframe, hhold, State.endSegment, if_pos rfl, s1.holdScreen_eq, hscreen, h, ht]
      rfl
    have hpols : t.policies i = s.policies i ↔ g.announce = .opened := by
      have hnew : t.policies i = ⟨g.gate, g.order, .opened⟩ := by
        rw [ht, State.policies_post]
        refine (s1.policies_updScreen i (·.toHolding .segmentHold)).trans ?_
        exact Screen.policies_of_holding rfl (Screen.current_eq (prog := prog) (p := ⟨p.segment, g.length⟩)
          (by rw [hscreen]; rfl) hprog1 hg)
      rw [hnew, hpol, Policies.mk.injEq, eq_comm (b := g.announce)]
      exact ⟨fun e => e.2.2, fun e => ⟨rfl, rfl, e⟩⟩
    rw [s.withPolicyNotice_iff hend hpols]
  · have hnext := (s1.hasNext_iff hprog1 p.segment).2 (List.getElem?_eq_some_iff.1 hg').1
    obtain ⟨heq, hnew⟩ := s1.startSegment_running (i := i) (f := id) (by rw [hscreen]; exact h) hprog1 hg'
    have hid : s1.updScreen i id = s1 := by rw [State.updScreen, vmod_same _ _ _ rfl]
    rw [hid] at heq hnew
    have hend : s.countFrame i p = t := by
      rw [hframe, hhold, State.endSegment, if_neg (by nofun), if_pos hnext, heq, ht]
      rfl
    have hpols : t.policies i = s.policies i ↔ g'.gate = g.gate ∧ g'.order = g.order ∧ g'.announce = g.announce := by
      rw [show t = _ from ht.trans heq.symm, hnew, hpol, Policies.mk.injEq]
    rw [s.withPolicyNotice_iff hend hpols]
  all_goals
    have hlastSeg : ¬ s1.hasNext i p.segment = true := fun hn =>
      absurd ((s1.hasNext_iff hprog1 _).1 hn) (Nat.not_lt.2 hlen)
    have hauto1 : s1.screens[i].autoClose = s.screens[i].autoClose := by rw [hscreen]
    have hend : s.countFrame i p = s1.endProgram i := by
      rw [hframe, hhold, State.endSegment, if_neg (by nofun), if_neg hlastSeg]
  · rw [s.withPolicyNotice_iff (hend.trans (s1.endProgram_ready (hauto1.trans hauto))) (s1.policies_ready_iff hpol _ _),
      hscreen, h, ht]
    rfl
  · rw [s.withPolicyNotice_iff (hend.trans (s1.endProgram_closing (hauto1.trans hauto))) (s1.policies_closing_iff hpol _ _),
      hscreen, h, ht]
    rfl

/-! ## STOP -/

/-- Settles O24. -/
theorem stopAndCooldown : Obligations.StopAndCooldown := by
  refine ⟨fun s tag b i ht hb => ⟨fun hmem s1 s2 h1 h2 => ?_, fun h => ?_, fun hmem => ?_⟩, fun s i ms hpow h htimer => ?_⟩
  · have hpol : s1.policies i = ⟨.closed, .closed, .opened⟩ := by
      rw [h1]
      exact s.policies_toClosing i _ _
    have hclose : (s.withPolicyNotice i fun s => s.enterClosing i .stop) = s2 := by
      rw [h2, s.withPolicyNotice_iff (t := s1) (P := s.policies i = ⟨.closed, .closed, .opened⟩)]
      · rw [s.enterClosing_eq, h1]
        rfl
      · rw [hpol]
        exact eq_comm
    simp only [List.mem_cons, List.not_mem_nil, or_false] at hmem
    rcases hmem with h | h | h | h
    all_goals
      refine State.exec_accepted (r := .stop b) rfl ht ?_
      rw [requestEffect, stopEffect, unit_eq hb]
      dsimp only
      rw [h, hclose]
      simp
  · have hwait : s.stopWaiting i = ((({ s with
        strikeQueue := s.strikeQueue.erase i
        screens := vmod s.screens i fun c => { c with state := .dark, holdReason := .none, position := none }
        }.teardown i).post i.val (.screenState .strikeWait .dark .stop .none none)).hand (.policy i)) := by
      refine s.withPolicyNotice_changed (State.teardown_postState { s with strikeQueue := s.strikeQueue.erase i } i
        Screen.toDark _ _ (by nofun)) ?_
      have hdark : ({ s with strikeQueue := s.strikeQueue.erase i }.updScreen i Screen.toDark).policies i =
          ⟨.closed, .closed, .opened⟩ :=
        (State.policies_updScreen _ i _).trans (Screen.policies_of_closed (by simp [Screen.toDark]))
      have hbefore : s.policies i = ⟨.admitAll, .opened, .opened⟩ := Screen.policies_of_waiting (by rw [h]; decide)
      have hafter := (State.policies_teardown _ i).trans hdark
      rw [State.policies_post, hbefore]
      exact fun e => absurd (hafter.symm.trans e) (by decide)
    rw [← hwait]
    refine State.exec_accepted (r := .stop b) rfl ht ?_
    rw [requestEffect, stopEffect, unit_eq hb]
    dsimp only
    rw [h]
  · simp only [List.mem_cons, List.not_mem_nil, or_false] at hmem
    rcases hmem with h | h
    all_goals
      refine State.exec_refused (r := .stop b) rfl ht ?_
      rw [requestEffect, stopEffect, unit_eq hb]
      dsimp only
      rw [h]
  · change Host.Outcome.next _ = _
    rw [State.ifPowered, if_pos hpow, h, htimer]
    dsimp only
    rw [s.withPolicyNotice_same (s.updScreen_postState i _ _ _)]
    · rfl
    · rw [State.policies_post, State.policies_updScreen, Screen.policies_of_closed (by simp), State.policies,
        Screen.policies_of_closed (by simp [-Fin.getElem_fin, h])]

end Sys2Proof.Machine
end

section
/-! The announce path in closed form, and the cue actions, ANNOUNCE, the grant, the player and CANCEL_ANNOUNCE (O27, O33 to
O37). -/

namespace Sys2Proof.Machine

/-! ## Cue lines -/

theorem foldl_zipIdx_filter {α β : Type} (p : α → Bool) (f : β → Nat → α → β) (xs : List α) (b : β) :
    (xs.zipIdx.filter fun x => p x.1).foldl (fun b x => f b x.2 x.1) b =
      (List.range xs.length).foldl (fun b k =>
        match xs[k]? with
        | some e => if p e then f b k e else b
        | none => b) b := by
  rw [List.foldl_filter]
  induction xs using List.reverseRecOn with
  | nil => rfl
  | append_singleton xs x ih =>
    rw [List.zipIdx_append, List.foldl_append, ih, List.length_append, List.length_singleton, List.range_succ,
      List.foldl_append]
    have hbefore : ∀ c : β, (List.range xs.length).foldl (fun b k =>
        match (xs ++ [x])[k]? with
        | some e => if p e then f b k e else b
        | none => b) c = (List.range xs.length).foldl (fun b k =>
        match xs[k]? with
        | some e => if p e then f b k e else b
        | none => b) c := fun c => by
      refine List.foldl_ext _ _ _ fun b k hk => ?_
      rw [List.getElem?_append_left (List.mem_range.1 hk)]
    rw [hbefore]
    simp

namespace State

variable (s : State)

/-- A line action leaves its line at a level with a timer, and its CUE report tells the level (R32, R33, R36). -/
theorem fire_line {i : Fin 6} {l : Fin 4} {e : CueEntry} {level : Bool} {timer : Timer} (index : Nat)
    (hl : e.action.line = some l) (hact : s.cues[i].act e.action = s.cues[i].setLine l level timer) :
    s.fire i index e = (s.updCue i fun u => u.setLine l level timer).reportCue i index e level 0 := by
  have hcue : (s.updCue i fun u => u.act e.action) = s.updCue i fun u => u.setLine l level timer :=
    congrArg (fun v => { s with cues := v })
      (vmod_congr s.cues i (fun u => u.act e.action) (fun u => u.setLine l level timer) hact)
  have hlevel : (s.updCue i fun u => u.setLine l level timer).cues[i].levelOf e.action = level := by
    rw [CueUnit.levelOf, hl, updCue_cues, vmod_at]
    exact vmod_at _ _ _
  unfold fire
  split
  · next h => rw [h] at hl; cases hl
  · dsimp only
    rw [hcue, hlevel]

theorem reportCue_eq (i : Fin 6) (index : Nat) (e : CueEntry) (level : Bool) (entry : Nat) :
    s.reportCue i index e level entry = { s with
      link := if e.report then
          s.link.postReport ⟨s.book.siteTime, i.val, .cue index ⟨e.segment, e.offset⟩ e.action level entry⟩
        else s.link } := by
  unfold reportCue
  split
  · rfl
  · rfl

/-! ## Enqueue -/

theorem grant_busy (h : s.announce.state ≠ .idle) : s.grant = s := by
  unfold grant
  split
  · next e => exact absurd e h
  all_goals rfl

/-- An entry that finds room, before the grant (R59, R60). -/
def queued (kind : EntryKind) (priority : Nat) (targets : List (Fin 6)) (clip : Nat) (tag order : Option Nat) : State :=
  let n := pickNumber s.announce.liveNumbers s.announce.liveNumbers.length s.announce.nextEntry
  { s with announce := { s.announce with
    queue := s.announce.queue ++ [⟨n, kind, priority, targets, clip, tag, order⟩], nextEntry := nextNumber n } }

theorem enqueue_room (kind : EntryKind) (priority : Nat) (targets : List (Fin 6)) (clip : Nat) (tag order : Option Nat)
    (h : s.announce.queue.length < 32) : s.enqueue kind priority targets clip tag order =
      (some (pickNumber s.announce.liveNumbers s.announce.liveNumbers.length s.announce.nextEntry),
        if s.announce.state = .idle then (s.queued kind priority targets clip tag order).grant
        else s.queued kind priority targets clip tag order) := by
  rw [enqueue, if_pos h]
  split
  · rfl
  · next hne => exact congrArg (Prod.mk _) (grant_busy _ hne)

theorem enqueue_full (kind : EntryKind) (priority : Nat) (targets : List (Fin 6)) (clip : Nat) (tag order : Option Nat)
    (h : 32 ≤ s.announce.queue.length) : s.enqueue kind priority targets clip tag order = (none, s) := by
  rw [enqueue, if_neg (Nat.not_lt.2 h)]

end State

/-- Settles O27. -/
theorem cueActions : Obligations.CueActions := by
  refine ⟨fun s i l index e level timer => ⟨fun h => ?_, fun ms hp ht => ?_⟩,
    fun s t i index clip priority n e he => ⟨fun hfull hn ht => ?_, fun u hroom hn hu ht => ?_⟩, fun s i p => ?_⟩
  · have hact : e.action.line = some l ∧ s.cues[i].act e.action = s.cues[i].setLine l level timer := by
      rcases h with ⟨ha, rfl, rfl⟩ | ⟨ha, rfl, rfl⟩ | ⟨ha, rfl, rfl⟩ | ⟨ha, rfl, rfl⟩ <;> rw [ha] <;> exact ⟨rfl, rfl⟩
    rw [s.fire_line index hact.1 hact.2, State.reportCue_eq]
    rfl
  · change Host.Outcome.next _ = _
    rw [State.ifPowered, if_pos hp, ht]
    rfl
  · rw [State.fire, he]
    dsimp only
    rw [s.enqueue_full _ _ _ _ _ _ hfull, ht, hn]
    rw [State.reportCue, he]
  · rw [State.fire, he]
    dsimp only
    rw [s.enqueue_room _ _ _ _ _ _ hroom, ht, hu, hn]
    dsimp only
    rw [State.reportCue, he]
    rfl
  · refine (foldl_zipIdx_filter (fun e : CueEntry => e.segment == p.segment && e.offset == p.frame)
      (fun (t : State) k e => t.fire i k e) s.cues[i].table s).trans ?_
    refine List.foldl_ext _ _ _ fun t k _ => ?_
    cases s.cues[i].table[k]? with
    | none => rfl
    | some e => simp only [Bool.and_eq_true, beq_iff_eq]

/-- Settles O33. -/
theorem announceEnqueues : Obligations.AnnounceEnqueues := by
  intro s t tag b1 b2 b3 n ht h1 h2 h3 h4 hroom hn hq
  refine State.exec_accepted (r := .announce b1 b2 b3) rfl ht ?_
  rw [requestEffect, announceEffect, if_neg (by simp only [h1, h3, false_or]; omega),
    s.enqueue_room _ _ _ _ _ _ hroom, hq, hn]
  rfl

end Sys2Proof.Machine
end

section
/-! The grant and the player in closed form (O34 to O37). -/

namespace Sys2Proof.Machine

/-! ## The choice (R64) -/

/-- An entry that a choice may take at a place: it passes, no later one is of higher priority and no earlier one of equal. -/
def IsBest (ok : Entry → Bool) (queue : List Entry) (place : Nat) (e : Entry) : Prop :=
  queue[place]? = some e ∧ ok e = true
    ∧ ∀ j x, queue[j]? = some x → ok x = true → x.priority < e.priority ∨ (x.priority = e.priority ∧ place ≤ j)

theorem bestEntry_none {ok : Entry → Bool} {queue : List Entry} (h : bestEntry ok queue = none) : ∀ e ∈ queue, ok e = false := by
  induction queue with
  | nil => nofun
  | cons e rest ih =>
    rw [bestEntry] at h
    split at h
    · next hrest =>
      rw [Option.map_eq_none_iff] at hrest
      split at h
      · cases h
      · next he => exact List.forall_mem_cons.2 ⟨Bool.eq_false_iff.2 he, ih hrest⟩
    · split at h <;> cases h

theorem IsBest.cons_of_none {ok : Entry → Bool} {rest : List Entry} {e : Entry} (h : ∀ x ∈ rest, ok x = false)
    (he : ok e = true) : IsBest ok (e :: rest) 0 e := by
  refine ⟨rfl, he, fun j x hx hok => ?_⟩
  cases j with
  | zero => cases hx; exact .inr ⟨rfl, Nat.le_refl 0⟩
  | succ j => exact absurd hok (by rw [h x (List.mem_of_getElem? hx)]; decide)

theorem bestEntry_spec {ok : Entry → Bool} {queue : List Entry} {place : Nat} {e : Entry}
    (h : bestEntry ok queue = some (place, e)) : IsBest ok queue place e := by
  induction queue generalizing place e with
  | nil => cases h
  | cons y rest ih =>
    rw [bestEntry] at h
    split at h
    · next hrest =>
      rw [Option.map_eq_none_iff] at hrest
      split at h
      · next hy => cases h; exact .cons_of_none (bestEntry_none hrest) hy
      · cases h
    · next b hrest =>
      obtain ⟨⟨q, x⟩, hq, rfl⟩ := Option.map_eq_some_iff.1 hrest
      obtain ⟨hget, hok, hbest⟩ : IsBest ok rest q x := ih hq
      split at h
      · next hfirst =>
        cases h
        rw [Bool.and_eq_true, decide_eq_true_eq] at hfirst
        refine ⟨rfl, hfirst.1, fun j z hz hzok => ?_⟩
        cases j with
        | zero => cases hz; exact .inr ⟨rfl, Nat.le_refl 0⟩
        | succ j =>
          have hpr := hbest j z hz hzok
          have hle : x.priority ≤ y.priority := hfirst.2
          omega
      · next hfirst =>
        cases h
        rw [Bool.and_eq_true, decide_eq_true_eq] at hfirst
        refine ⟨hget, hok, fun j z hz hzok => ?_⟩
        cases j with
        | zero =>
          cases hz
          dsimp only at hfirst
          exact .inl (Nat.not_le.1 fun hle => hfirst ⟨hzok, hle⟩)
        | succ j =>
          have hpr := hbest j z hz hzok
          change z.priority < x.priority ∨ (z.priority = x.priority ∧ q + 1 ≤ j + 1)
          omega

theorem IsBest.unique {ok : Entry → Bool} {queue : List Entry} {p q : Nat} {e x : Entry} (he : IsBest ok queue p e)
    (hx : IsBest ok queue q x) : p = q ∧ e = x := by
  have h1 := he.2.2 q x hx.1 hx.2.1
  have h2 := hx.2.2 p e he.1 he.2.1
  obtain rfl : p = q := by omega
  exact ⟨rfl, Option.some.inj (he.1.symm.trans hx.1)⟩

theorem bestEntry_iff (ok : Entry → Bool) (queue : List Entry) (place : Nat) (e : Entry) :
    bestEntry ok queue = some (place, e) ↔ IsBest ok queue place e := by
  refine ⟨bestEntry_spec, fun h => ?_⟩
  cases hb : bestEntry ok queue with
  | none => exact absurd h.2.1 (by rw [bestEntry_none hb e (List.mem_of_getElem? h.1)]; decide)
  | some b =>
    obtain ⟨rfl, rfl⟩ := h.unique (bestEntry_spec hb)
    rfl

/-! ## Channels -/

/-- A channel sent to its duck level, its at-level indication exact (R52, R54). -/
def Channel.leveled (c : Channel) : Channel := { c with mode := .level, atLevel := c.duckGain == c.duckLevel }

/-- The notice of a channel that is found at its level where it was not before (R54). -/
def reachedLevel (i : Fin 6) (c : Channel) : List Notice := if c.leveled.atLevel && !c.atLevel then [.atLevel i] else []

theorem mem_reachedLevel {i : Fin 6} {c : Channel} {x : Notice} :
    x ∈ reachedLevel i c ↔ x = .atLevel i ∧ c.duckGain = c.duckLevel ∧ c.atLevel = false := by
  unfold reachedLevel
  split
  · next h =>
    rw [Bool.and_eq_true, Bool.not_eq_true'] at h
    rw [List.mem_singleton]
    exact ⟨fun e => ⟨e, beq_iff_eq.1 h.1, h.2⟩, And.left⟩
  · next h =>
    refine ⟨nofun, fun ⟨_, hg, ha⟩ => absurd ?_ h⟩
    rw [ha, Channel.leveled, Bool.not_false, Bool.and_true]
    exact beq_iff_eq.2 hg

/-- A channel released (R52). -/
def Channel.released (c : Channel) : Channel := { c with mode := .unity, feedOpen := false, atLevel := false }

theorem OnAir.subject_eq (r : OnAir) : r.subject = (r.granted.map fun j : Fin 6 => j.val).headD 0 := by
  unfold OnAir.subject
  split
  · next h => rw [h]; rfl
  · next h => rw [h]; rfl

namespace State

variable (s : State)

theorem setMode_level (i : Fin 6) : s.setMode .level i = { s with
    channels := vmod s.channels i Channel.leveled, notices := s.notices ++ reachedLevel i s.channels[i] } := by
  have hc : { s.channels[i] with mode := .level }.refresh = s.channels[i].leveled := by
    simp [Channel.refresh, Channel.reached, Channel.leveled]
  rw [setMode, hc, putChannel, reachedLevel]
  split
  · rfl
  · rw [List.append_nil]
    rfl

/-- The state after some channels are sent to their duck levels: a channel that is found there hands its notice (R54). -/
theorem foldl_setMode_level (targets : List (Fin 6)) : ∀ s : State, ∃ (channels : Vector Channel 6) (reached : List Notice),
    targets.foldl (fun s i => s.setMode .level i) s = { s with channels := channels, notices := s.notices ++ reached }
    ∧ (∀ i : Fin 6, channels[i] = if i ∈ targets then s.channels[i].leveled else s.channels[i])
    ∧ ∀ x, x ∈ reached ↔ ∃ i ∈ targets, x = .atLevel i ∧ s.channels[i].duckGain = s.channels[i].duckLevel
        ∧ s.channels[i].atLevel = false := by
  induction targets with
  | nil => exact fun s => ⟨s.channels, [], by rw [List.append_nil]; rfl, fun i => rfl, fun x => by simp⟩
  | cons i rest ih =>
    intro s
    obtain ⟨channels, reached, heq, hch, hmem⟩ := ih (s.setMode .level i)
    have hset : (s.setMode .level i).channels = vmod s.channels i Channel.leveled := by rw [s.setMode_level i]
    rw [hset] at hch hmem
    refine ⟨channels, reachedLevel i s.channels[i] ++ reached, ?_, fun j => ?_, fun x => ?_⟩
    · rw [List.foldl_cons, heq, s.setMode_level i, List.append_assoc]
    · rw [hch]
      by_cases hj : j = i
      · subst hj
        rw [vmod_at, if_pos (List.mem_cons_self ..)]
        split <;> rfl
      · rw [vmod_at_ne _ _ hj]
        simp only [List.mem_cons, hj, false_or]
    · rw [List.mem_append, hmem, mem_reachedLevel]
      constructor
      · rintro (h | ⟨j, hj, rfl, hg, ha⟩)
        · exact ⟨i, List.mem_cons_self .., h⟩
        · by_cases hji : j = i
          · subst hji
            rw [vmod_at] at hg ha
            exact absurd ha (by rw [show s.channels[j].leveled.atLevel = true from beq_iff_eq.2 hg]; decide)
          · rw [vmod_at_ne _ _ hji] at hg ha
            exact ⟨j, List.mem_cons_of_mem _ hj, rfl, hg, ha⟩
      · rintro ⟨j, hj, rfl, hg, ha⟩
        by_cases hji : j = i
        · subst hji
          exact .inl ⟨rfl, hg, ha⟩
        · refine .inr ⟨j, (List.mem_cons.1 hj).resolve_left hji, rfl, ?_⟩
          rw [vmod_at_ne _ _ hji]
          exact ⟨hg, ha⟩

theorem foldl_setFeed (isOpen : Bool) (targets : List (Fin 6)) : ∀ s : State,
    targets.foldl (fun s i => s.setFeed isOpen i) s = { s with
      channels := targets.foldl (fun v j => vmod v j fun c => { c with feedOpen := isOpen }) s.channels } := by
  induction targets with
  | nil => exact fun _ => rfl
  | cons i rest ih => exact fun s => ih _

theorem release_channel (i : Fin 6) : (s.setMode .unity i).setFeed false i = { s with
    channels := vmod s.channels i Channel.released } := by
  have hc : { s.channels[i] with mode := .unity }.refresh = { s.channels[i] with mode := .unity, atLevel := false } := rfl
  rw [setMode, hc, putChannel, Bool.false_and, if_neg (by nofun), setFeed, updChannel, updChannel_channels, vmod_vmod]
  exact congrArg (fun v => { s with channels := v }) (vmod_congr s.channels i _ Channel.released rfl)

theorem releaseChannels_eq (r : OnAir) : s.releaseChannels r = { s with
    channels := r.granted.foldl (fun v j => vmod v j Channel.released) s.channels } := by
  unfold releaseChannels
  generalize r.granted = targets
  induction targets generalizing s with
  | nil => rfl
  | cons i rest ih => rw [List.foldl_cons, s.release_channel, ih, List.foldl_cons]

/-! ## The player -/

theorem enterPlaying_eq (r : OnAir) : s.enterPlaying r = { s with
    announce := { s.announce with state := .playing, timer := some 60000 }
    channels := r.granted.foldl (fun v j => vmod v j fun c => { c with feedOpen := true }) s.channels
    playWords := s.playWords ++ [⟨r.clip, r.tag.getD 0⟩]
    link := s.link.postReport ⟨s.book.siteTime, r.subject, .onAir r (s.announce.queue.any (·.number == r.number))⟩ } := by
  rw [enterPlaying, foldl_setFeed]
  rfl

theorem testPlaying_reached {r : OnAir} (h : s.allAtLevel r = true) : s.testPlaying r = s.enterPlaying r := by
  rw [testPlaying, if_pos h]

theorem testPlaying_waits {r : OnAir} (h : ¬ s.allAtLevel r = true) : s.testPlaying r = s := by
  rw [testPlaying, if_neg h]

theorem allAtLevel_iff (r : OnAir) : s.allAtLevel r = true ↔ ∀ i ∈ r.granted, s.channels[i].atLevel = true :=
  List.all_eq_true

end State

/-- Settles O35. -/
theorem playingStartsAtLevel : Obligations.PlayingStartsAtLevel := by
  intro s i hp
  refine ⟨fun h => ?_, fun r hs hr => ⟨fun ⟨j, hj, hlow⟩ => ?_, fun hall => ?_⟩⟩
  · change Host.Outcome.next _ = _
    rw [State.ifPowered, if_pos hp]
    dsimp only
    split
    · next e _ => exact absurd e h
    · rfl
  all_goals
    change Host.Outcome.next _ = _
    rw [State.ifPowered, if_pos hp, hs, hr]
    dsimp only
  · rw [State.testPlaying_waits]
    · rfl
    · exact fun h => absurd ((State.allAtLevel_iff _ r).1 h j hj) (by
        change ¬ s.channels[j].atLevel = true
        rw [hlow]
        decide)
  · rw [State.testPlaying_reached (s.takeNotice _) ((State.allAtLevel_iff _ r).2 hall), State.enterPlaying_eq, OnAir.subject_eq]
    rfl

/-! ## The grant -/

namespace State

variable (s : State)

theorem takes_iff (p : AnnouncePolicy) (priority : Nat) :
    p.takes priority = true ↔ p = .opened ∨ (p = .urgentOnly ∧ priority = 3) := by
  cases p <;> simp [AnnouncePolicy.takes]

theorem mem_eligible (e : Entry) (i : Fin 6) : i ∈ s.eligible e ↔ i ∈ e.targets
    ∧ ((s.policies i).announce = .opened ∨ ((s.policies i).announce = .urgentOnly ∧ e.priority = 3)) := by
  rw [eligible, List.mem_filter, takes_iff]

/-- The targets a grant leaves waiting (R64). -/
theorem rest_eq (e : Entry) : (e.targets.filter fun i => !((s.policies i).announce.takes e.priority)) =
    e.targets.filter fun i => !(s.eligible e).contains i := by
  refine List.filter_congr fun i hi => ?_
  rw [Bool.not_eq_eq_eq_not, Bool.not_not, Bool.eq_iff_iff, List.contains_iff_mem, eligible, List.mem_filter]
  exact ⟨fun h => ⟨hi, h⟩, And.right⟩

theorem rest_isEmpty (e : Entry) : (e.targets.filter fun i => !(s.eligible e).contains i).isEmpty = true ↔
    ∀ i ∈ e.targets, i ∈ s.eligible e := by
  rw [List.isEmpty_iff, List.filter_eq_nil_iff]
  refine forall₂_congr fun i _ => ?_
  rw [Bool.not_eq_true', Bool.not_eq_false, List.contains_iff_mem]

theorem grant_idle {place : Nat} {e : Entry} (h : s.announce.state = .idle)
    (hb : bestEntry (fun x => !(s.eligible x).isEmpty) s.announce.queue = some (place, e)) :
    s.grant = s.grantEntry place e := by
  unfold grant
  rw [h]
  dsimp only
  rw [hb]

theorem grant_none (h : ∀ e ∈ s.announce.queue, s.eligible e = []) : s.grant = s := by
  unfold grant
  split
  · split
    · rfl
    · next heq =>
      obtain ⟨hget, hok, -⟩ := bestEntry_spec heq
      dsimp only at hok
      rw [h _ (List.mem_of_getElem? hget)] at hok
      cases hok
  all_goals rfl

end State

/-- Feeds opened on the granted channels, channel by channel. -/
theorem foldl_openFeed (targets : List (Fin 6)) (v : Vector Channel 6) (i : Fin 6) :
    (targets.foldl (fun v j => vmod v j fun c => { c with feedOpen := true }) v)[i] =
      if i ∈ targets then { v[i] with feedOpen := true } else v[i] := by
  induction targets generalizing v with
  | nil => rfl
  | cons j rest ih =>
    rw [List.foldl_cons, ih]
    by_cases hij : i = j
    · subst hij
      rw [vmod_at, if_pos (List.mem_cons_self ..)]
      split <;> rfl
    · rw [vmod_at_ne _ _ hij]
      simp only [List.mem_cons, hij, false_or]

/-- Settles O34: the granted channels are sent to their levels one after another, and the entry to PLAYING is tested on what
they then indicate. -/
theorem theGrant : Obligations.TheGrant := by
  refine ⟨bestEntry_iff, State.mem_eligible, fun s h => ?_,
    fun s place e r queue channels whole atLevel hidle hbest hwhole hat hr hq hch => ?_⟩
  · by_cases hs : s.announce.state = .idle
    · exact s.grant_none (h.resolve_left (not_not.2 hs))
    · exact s.grant_busy hs
  · obtain ⟨v, reached, hfold, hv, hreached⟩ := State.foldl_setMode_level (s.eligible e) (s.updAnnounce fun a => { a with
      queue := queueAfterGrant a.queue place e (e.targets.filter fun i => !((s.policies i).announce.takes e.priority))
      onAir := some (e.granted (s.eligible e)), state := .ducking })
    refine ⟨reached, ?_, hreached⟩
    have hqueue : queueAfterGrant s.announce.queue place e
        (e.targets.filter fun i => !((s.policies i).announce.takes e.priority)) = queue := by
      rw [s.rest_eq, queueAfterGrant, hq]
      exact if_congr ((s.rest_isEmpty e).trans hwhole.symm) rfl rfl
    have hlevel : (∀ i ∈ s.eligible e, v[i].atLevel = true) ↔ atLevel = true := by
      rw [hat]
      refine forall₂_congr fun i hi => ?_
      rw [hv, if_pos hi]
      exact beq_iff_eq
    have hchannels : (if atLevel = true then
        (s.eligible e).foldl (fun v j => vmod v j fun c => { c with feedOpen := true }) v else v) = channels := by
      ext i hi
      change _ = channels[(⟨i, hi⟩ : Fin 6)]
      rw [hch]
      cases atLevel with
      | true =>
        rw [if_pos rfl]
        refine (foldl_openFeed _ _ ⟨i, hi⟩).trans ?_
        rw [hv]
        split <;> rfl
      | false =>
        rw [if_neg (by nofun)]
        exact hv ⟨i, hi⟩
    have hempty : (e.targets.filter fun i => !((s.policies i).announce.takes e.priority)).isEmpty = true ↔ whole = true := by
      rw [s.rest_eq]
      exact (s.rest_isEmpty e).trans hwhole.symm
    rw [s.grant_idle hidle hbest, State.grantEntry]
    dsimp only
    rw [hfold]
    have hall : ∀ u : State, u.channels = v → (u.allAtLevel r = true ↔ atLevel = true) := fun u hu => by
      rw [State.allAtLevel_iff, hu, hr]
      exact hlevel
    rw [show e.granted (s.eligible e) = r from hr.symm, if_congr hempty rfl rfl, ← hqueue, ← hchannels]
    cases atLevel with
    | true =>
      rw [State.testPlaying_reached _ ((hall _ rfl).2 rfl), State.enterPlaying_eq, OnAir.subject_eq, hr]
      cases whole with
      | true => rfl
      | false => simp only [Bool.false_eq_true, if_false, List.append_nil]; rfl
    | false =>
      rw [State.testPlaying_waits _ fun h => absurd ((hall _ rfl).1 h) (by decide)]
      cases whole with
      | true => rfl
      | false => simp only [Bool.false_eq_true, if_false, List.append_nil]; rfl

end Sys2Proof.Machine
end

section
/-! The end of a play, DONE, POLICY_NOTICE and CANCEL_ANNOUNCE (O36, O37). -/

namespace Sys2Proof.Machine

/-- The call-played notice that a play's end hands (R79). -/
def OnAir.callNotice (r : OnAir) (o : PlayOutcome) : List Notice :=
  match r.kind, r.order with
  | .call k, some n => [.callPlayed n r.number k o]
  | _, _ => []

namespace State

variable (s : State)

theorem handCallPlayed_eq (r : OnAir) (o : PlayOutcome) : s.handCallPlayed r o = { s with notices := s.notices ++ r.callNotice o } := by
  unfold handCallPlayed OnAir.callNotice
  generalize r.kind = kind
  generalize r.order = order
  cases kind with
  | call k =>
    cases order with
    | none => simp only [List.append_nil]
    | some n => rfl
  | _ => cases order <;> simp only [List.append_nil]

/-- The slot emptied and the channels released, before the grant (R71, R75). -/
def vacated (r : OnAir) : State :=
  { s with
    announce := { s.announce with onAir := none, state := .idle, timer := none }
    channels := r.granted.foldl (fun v j => vmod v j Channel.released) s.channels }

theorem vacate_eq (r : OnAir) : s.vacate r = (s.vacated r).grant := by
  rw [vacate, releaseChannels_eq]
  rfl

/-- What the grant reads decides the remainder mark (R80). -/
theorem remainder_eq (r : OnAir) {t : State} (h : SameAir (s.vacated r) t) :
    (s.vacate r).remainderWaits r.number = t.grant.announce.queue.any (·.number == r.number) := by
  rw [vacate_eq, remainderWaits, h.grant.1]

theorem endPlay_eq (r : OnAir) (o : PlayOutcome) {t : State} (h : SameAir (s.vacated r) t) : s.endPlay r o =
    { s.vacated r with
      notices := s.notices ++ r.callNotice o
      link := s.link.postReport ⟨s.book.siteTime, r.subject,
        .playDone r o (t.grant.announce.queue.any (·.number == r.number))⟩ }.grant := by
  rw [endPlay, handCallPlayed_eq, vacate_eq, reportDone, s.remainder_eq r h]
  rfl

theorem cancelOnAir_eq (r : OnAir) {t : State} (h : SameAir (s.vacated r) t) : s.cancelOnAir r =
    { s.vacated r with
      playWords := if s.announce.state = PathState.playing then s.playWords ++ [(⟨0, 0⟩ : PlayWord)] else s.playWords
      link := s.link.postReport ⟨s.book.siteTime, r.subject,
        .playDone r .cancelled (t.grant.announce.queue.any (·.number == r.number))⟩ }.grant := by
  unfold cancelOnAir
  dsimp only
  split
  · rw [vacate_eq, reportDone, remainder_eq (s.sendPlay .stop) r (t := t) h]
    rfl
  · rw [vacate_eq, reportDone, s.remainder_eq r h]
    rfl

end State

/-- Settles O36: DONE and the player timer end the play alike. -/
theorem endOfPlay : Obligations.EndOfPlay := by
  intro s r ms hp hplaying hair htimer c outcome s1 hc s2 remainder h2 hrem
  have hexec : exec c s = .next (s1.endPlay r outcome) := by
    rcases hc with ⟨rfl, rfl, hline, rfl⟩ | ⟨rfl, rfl, rfl⟩
    · change Host.Outcome.next _ = _
      rw [hp, hline, Bool.not_false, Bool.and_self, Bool.and_self, if_pos rfl, hplaying, hair]
    · change Host.Outcome.next _ = _
      rw [State.ifPowered, if_pos hp, hplaying, hair, htimer]
      rfl
  have hs1 : s1.announce = s.announce ∧ s1.channels = s.channels ∧ s1.screens = s.screens ∧ s1.notices = s.notices
      ∧ s1.link = s.link ∧ s1.book = s.book := by
    rcases hc with ⟨-, -, -, rfl⟩ | ⟨-, -, rfl⟩ <;> exact ⟨rfl, rfl, rfl, rfl, rfl, rfl⟩
  obtain ⟨ha, hch, hsc, hn, hl, hb⟩ := hs1
  have hair2 : SameAir (s1.vacated r) s2 := by
    rw [h2]
    refine ⟨?_, ?_, rfl⟩
    · rw [State.vacated, ha]
    · rw [State.vacated, hch]
      rfl
  rw [hexec, s1.endPlay_eq r outcome hair2, ← hrem, h2, OnAir.subject_eq, State.vacated, ha, hch, hn, hl, hb]
  rfl

/-! ## CANCEL_ANNOUNCE -/

namespace State

variable (s : State)

/-- The grant leaves the queue, or takes the entry it chooses out of it, wholly or in part (R64). -/
theorem grant_queue : s.grant.announce.queue = s.announce.queue ∨ ∃ place e rest,
    s.announce.queue[place]? = some e ∧ s.grant.announce.queue = queueAfterGrant s.announce.queue place e rest := by
  by_cases hidle : s.announce.state = .idle
  · cases hb : bestEntry (fun x => !(s.eligible x).isEmpty) s.announce.queue with
    | none =>
      left
      unfold grant
      rw [hidle]
      dsimp only
      rw [hb]
    | some b =>
      refine .inr ⟨b.1, b.2, b.2.targets.filter fun i => !((s.policies i).announce.takes b.2.priority), (bestEntry_spec hb).1, ?_⟩
      have hqueue : ∀ (u : State) (r : OnAir), (u.testPlaying r).announce.queue = u.announce.queue := fun u r => by
        unfold testPlaying
        split
        · rw [enterPlaying_eq]
        · rfl
      rw [s.grant_idle hidle hb, grantEntry]
      obtain ⟨v, reached, hfold, -, -⟩ := foldl_setMode_level (s.eligible b.2) (s.updAnnounce fun a => { a with
        queue := queueAfterGrant a.queue b.1 b.2 (b.2.targets.filter fun i => !((s.policies i).announce.takes b.2.priority))
        onAir := some (b.2.granted (s.eligible b.2)), state := .ducking })
      rw [hfold]
      split
      · rw [hand_announce, hqueue]
        rfl
      · rw [hqueue]
        rfl
  · rw [s.grant_busy hidle]
    exact .inl rfl

theorem grant_numbers {x : Entry} (h : x ∈ s.grant.announce.queue) : ∃ y ∈ s.announce.queue, y.number = x.number := by
  rcases s.grant_queue with hq | ⟨place, e, rest, hget, hq⟩
  · exact ⟨x, hq ▸ h, rfl⟩
  · rw [hq, queueAfterGrant] at h
    split at h
    · exact ⟨x, List.mem_of_mem_eraseIdx h, rfl⟩
    · rcases List.mem_or_eq_of_mem_set h with h | rfl
      · exact ⟨x, h, rfl⟩
      · exact ⟨e, List.mem_of_getElem? hget, rfl⟩

theorem kindOf_waiting {number : Nat} {e : Entry} (h : s.announce.queue.find? (·.number == number) = some e) :
    s.kindOf number = some e.kind ∧ s.remainderWaits number = true := by
  constructor
  · rw [kindOf, h]
  · rw [remainderWaits, List.any_eq_true]
    exact ⟨e, List.mem_of_find?_eq_some h, List.find?_some (p := fun x : Entry => x.number == number) h⟩

theorem kindOf_onAir {number : Nat} (h : ∀ e ∈ s.announce.queue, e.number ≠ number) :
    s.kindOf number = (s.announce.onAir.filter (·.number == number)).map (·.kind) ∧ s.remainderWaits number = false := by
  constructor
  · rw [kindOf, List.find?_eq_none.2 fun e he hn => h e he (beq_iff_eq.1 hn)]
  · rw [remainderWaits, List.any_eq_false]
    exact fun e he hn => h e he (beq_iff_eq.1 hn)

/-- The on-air record, where its number is the one asked for. -/
theorem onAir_filter {number : Nat} {r : OnAir} (hr : s.announce.onAir = some r) (hn : r.number = number) :
    s.announce.onAir.filter (·.number == number) = some r := by
  rw [hr, Option.filter_some, if_pos (beq_iff_eq.2 hn)]

theorem onAir_filter_none {number : Nat} (h : ∀ r, s.announce.onAir = some r → r.number ≠ number) :
    s.announce.onAir.filter (·.number == number) = none := by
  cases ha : s.announce.onAir with
  | none => rfl
  | some r => rw [Option.filter_some, if_neg fun e => h r ha (beq_iff_eq.1 e)]

/-- CANCEL_ANNOUNCE of an entry of the host or of a cue: its waiting part, its on-air part, and the slot-free notice. -/
theorem cancelAnnounceEffect_eq {x : Half} {kind : EntryKind} (hk : s.kindOf x.toNat = some kind)
    (hkind : kind = .operator ∨ kind = .showNotice) {waiting : Bool} {air : Option OnAir} {t : State}
    (hw : s.remainderWaits x.toNat = waiting) (ha : s.announce.onAir.filter (·.number == x.toNat) = air)
    (ht : air.elim (s.updAnnounce fun a => { a with queue := a.queue.eraseP (·.number == x.toNat) })
      (s.updAnnounce fun a => { a with queue := a.queue.eraseP (·.number == x.toNat) }).cancelOnAir = t) :
    cancelAnnounceEffect x s = (if waiting then t.hand .slotFree else t, .ok (flag waiting ++ flag air.isSome)) := by
  unfold cancelAnnounceEffect
  rw [hk]
  rcases hkind with rfl | rfl
  all_goals
    dsimp only
    rw [hw, ha, ← ht]
    cases air <;> rfl

end State

/-- Settles O37. -/
theorem donePolicyNoticeAndCancel : Obligations.DonePolicyNoticeAndCancel := by
  refine ⟨fun s => ⟨fun level h => ?_, fun i hp hs => ?_, fun i hp hs => ?_⟩,
    fun s tag x ht => ⟨fun e he hkind hair => ?_, fun r hr hn hkind hno t hteq => ?_, fun e r t remainder he hkind hr hn hteq
      hrem => ?_, fun e k he hk => ?_⟩⟩
  · change Host.Outcome.next _ = _
    split
    · next hc =>
      rw [Bool.and_eq_true, Bool.and_eq_true, Bool.not_eq_true'] at hc
      split
      · next hplaying _ =>
        rcases h with h | h | h
        · exact absurd hplaying h
        · exact absurd (hc.1.2.symm.trans h) (by decide)
        · exact absurd (hc.2.symm.trans h) (by decide)
      · rfl
    · rfl
  · change Host.Outcome.next _ = _
    rw [State.ifPowered, if_pos hp, State.grant_busy (s.takeNotice _) hs]
    rfl
  · change Host.Outcome.next _ = _
    rw [State.ifPowered, if_pos hp]
    rfl
  · obtain ⟨hk, hw⟩ := s.kindOf_waiting he
    exact State.exec_accepted (r := .cancelAnnounce x) rfl ht
      (s.cancelAnnounceEffect_eq hk hkind hw (s.onAir_filter_none hair) rfl)
  · obtain ⟨hk, hw⟩ := s.kindOf_onAir hno
    rw [s.onAir_filter hr hn] at hk
    have herase : s.announce.queue.eraseP (·.number == x.toNat) = s.announce.queue :=
      List.eraseP_of_forall_not fun e he hx => hno e he (beq_iff_eq.1 hx)
    have hsame : (s.updAnnounce fun a => { a with queue := a.queue.eraseP (·.number == x.toNat) }) = s := by
      rw [State.updAnnounce, herase]
    have hfalse : (s.vacated r).grant.announce.queue.any (·.number == r.number) = false := by
      rw [List.any_eq_false]
      intro y hy hyn
      obtain ⟨z, hz, hzn⟩ := State.grant_numbers _ hy
      exact hno z hz (hzn.trans ((beq_iff_eq.1 hyn).trans hn))
    rw [State.exec_accepted (r := .cancelAnnounce x) rfl ht
      (s.cancelAnnounceEffect_eq hk hkind hw (s.onAir_filter hr hn) rfl)]
    rw [if_neg (by decide), Option.elim_some, hsame, s.cancelOnAir_eq r ⟨rfl, rfl, rfl⟩, hfalse, hteq, OnAir.subject_eq]
    rfl
  · obtain ⟨hk, hw⟩ := s.kindOf_waiting he
    rw [State.exec_accepted (r := .cancelAnnounce x) rfl ht
      (s.cancelAnnounceEffect_eq hk hkind hw (s.onAir_filter hr hn) rfl), if_pos rfl, Option.elim_some]
    have hair : SameAir ((s.updAnnounce fun a => { a with queue := a.queue.eraseP (·.number == x.toNat) }).vacated r) t := by
      rw [hteq]
      exact ⟨rfl, rfl, rfl⟩
    rw [State.cancelOnAir_eq _ r hair, hn, ← hrem, hteq, OnAir.subject_eq]
    rfl
  · obtain ⟨hkind, -⟩ := s.kindOf_waiting he
    refine State.exec_refused (r := .cancelAnnounce x) rfl ht ?_
    rw [requestEffect, cancelAnnounceEffect, hkind, hk]

end Sys2Proof.Machine
end

section
/-! The sound channels (O28 to O32). -/

namespace Sys2Proof.Machine

/-! ## The mix -/

theorem abs_sample_le (f : Half) : |f.toInt| ≤ 32768 := by
  have h1 := BitVec.le_toInt f
  have h2 := BitVec.toInt_lt (x := f)
  rw [abs_le]
  constructor <;> omega

theorem abs_mul_natCast_le {a : Int} {n m k : Nat} (ha : |a| ≤ (k : Int)) (hn : n ≤ m) : |a * (n : Int)| ≤ (k * m : Nat) := by
  rw [abs_mul, Nat.abs_cast, Nat.cast_mul]
  exact mul_le_mul ha (Int.ofNat_le.2 hn) (Int.natCast_nonneg n) (Int.natCast_nonneg k)

/-- Division by a positive number that rounds down is the floor of the exact quotient. -/
theorem ediv_eq_floor (n : Int) (k : Nat) : n / (2 ^ k : Int) = ⌊((n : Int) : ℚ) / 2 ^ k⌋ := by
  have h := Rat.floor_intCast_div_natCast n (2 ^ k)
  push_cast at h
  exact h.symm

/-- A saturated sum is a sample. -/
theorem toInt_saturateSample (y : Int) : (BitVec.ofInt 16 (saturateSample y)).toInt = saturateSample y := by
  have h : -32768 ≤ saturateSample y ∧ saturateSample y ≤ 32767 := by
    unfold saturateSample
    omega
  rw [BitVec.toInt_ofInt]
  exact Int.bmod_eq_of_le (by omega) (by omega)

/-- Settles O28. -/
theorem mixArithmetic : Obligations.MixArithmetic := by
  refine ⟨fun f trim gain => ?_, fun f trim gain ht hg => ?_, fun f => ?_, fun f trim gain => rfl, fun a gain => ?_,
    fun a gain hg => ?_, fun a => ?_, fun a gain => rfl, by decide, by decide, fun c pathOpen a f => ?_⟩
  · exact ediv_eq_floor _ 28
  · have h := abs_le.1 (abs_mul_natCast_le (abs_mul_natCast_le (k := 32768) (abs_sample_le f) ht) hg)
    rw [featureTerm, if_pos rfl]
    omega
  · rw [featureTerm, if_pos rfl]
    omega
  · exact ediv_eq_floor _ 14
  · have h := abs_le.1 (abs_mul_natCast_le (k := 32768) (abs_sample_le a) hg)
    rw [announceTerm, if_pos rfl]
    omega
  · rw [announceTerm, if_pos rfl]
    omega
  · have hl := toInt_saturateSample (c.mixed pathOpen a f.left)
    have hr := toInt_saturateSample (c.mixed pathOpen a f.right)
    refine ⟨hl, hr, ?_⟩
    change (c.clip || saturateSample (c.mixed pathOpen a f.left) != c.mixed pathOpen a f.left
      || saturateSample (c.mixed pathOpen a f.right) != c.mixed pathOpen a f.right) = true ↔
        _ ∨ (BitVec.ofInt 16 (saturateSample (c.mixed pathOpen a f.left))).toInt ≠ c.mixed pathOpen a f.left
          ∨ (BitVec.ofInt 16 (saturateSample (c.mixed pathOpen a f.right))).toInt ≠ c.mixed pathOpen a f.right
    rw [hl, hr, Bool.or_eq_true, Bool.or_eq_true, bne_iff_ne, bne_iff_ne, or_assoc]

/-! ## The ramp -/

theorem rampStep_down {gain target step : Nat} (h : target ≤ gain) : rampStep gain target step = max target (gain - step) := by
  unfold rampStep
  split
  · omega
  · split <;> omega

theorem rampStep_up {gain target step : Nat} (h : gain ≤ target) : rampStep gain target step = min target (gain + step) := by
  unfold rampStep
  split
  · rfl
  · split <;> omega

theorem iterate_rampStep_down {gain target step : Nat} (h : target ≤ gain) (n : Nat) :
    (fun d => rampStep d target step)^[n] gain = max target (gain - n * step) := by
  induction n with
  | zero => rw [Nat.zero_mul, Nat.sub_zero, max_eq_right h]; rfl
  | succ n ih =>
    rw [Function.iterate_succ_apply', ih, rampStep_down (Nat.le_max_left _ _), Nat.succ_mul]
    omega

theorem iterate_rampStep_up {gain target step : Nat} (h : gain ≤ target) (n : Nat) :
    (fun d => rampStep d target step)^[n] gain = min target (gain + n * step) := by
  induction n with
  | zero => rw [Nat.zero_mul, Nat.add_zero, min_eq_right h]; rfl
  | succ n ih =>
    rw [Function.iterate_succ_apply', ih, rampStep_up (Nat.min_le_left _ _), Nat.succ_mul]
    omega

/-- Settles O29. -/
theorem duckRamp : Obligations.DuckRamp := by
  intro step n hstep
  refine ⟨fun gain target h => iterate_rampStep_down h n, fun gain target h => iterate_rampStep_up h n, fun level hl => ?_⟩
  rw [iterate_rampStep_down hl, Nat.div_le_iff_le_mul_add_pred (by omega), Nat.mul_comm step n]
  omega

/-! ## The tick -/

theorem Channel.target_eq (c : Channel) : c.target = if c.mode = DuckMode.level then c.duckLevel else 16384 := by
  unfold Channel.target
  split
  · next h => rw [h, if_neg (by nofun)]
  · next h => rw [h, if_pos rfl]

theorem Channel.afterInput_eq (c : Channel) : c.afterInput = { c with
    input := c.input.tail, underrun := c.underrun || c.input.isEmpty } := by
  unfold Channel.afterInput
  split
  · next h => rw [h, List.isEmpty_cons, Bool.or_false]; rfl
  · next h => rw [h, List.isEmpty_nil, Bool.or_true]; rfl

theorem Channel.taken_eq (c : Channel) : c.taken = c.input.head?.getD ⟨0, 0⟩ := by
  unfold Channel.taken
  split
  · next h => rw [h]; rfl
  · next h => rw [h]; rfl

theorem serialBits_get (w : Half) {k : Nat} (h : k < 16) : (serialBits w)[k]? = some (w.getLsbD (15 - k)) := by
  rw [serialBits, List.getElem?_map, List.getElem?_range h]
  rfl

theorem serialBits_length (w : Half) : (serialBits w).length = 16 := by
  rw [serialBits, List.length_map, List.length_range]

/-- Settles O30: the stages of a tick one after another. -/
theorem sampleTick : Obligations.SampleTick := by
  refine ⟨fun s i a other c d ring t hp hc hd hring ht => ?_, fun s i hp => ?_⟩
  · have htick : c.tick s.screens[i].featureOpen a = t := by
      rw [ht, hring, hd, ← c.target_eq, ← c.taken_eq, Channel.tick, c.afterInput_eq]
      rfl
    have hlevel : t.atLevel = (c.mode == DuckMode.level && d == c.duckLevel) := by rw [ht]; rfl
    change Host.Outcome.next _ = _
    rw [State.ifPowered, if_pos hp, ← hc]
    have hnotice : (t.atLevel && !c.atLevel) = true ↔ c.mode = DuckMode.level ∧ d = c.duckLevel ∧ c.atLevel = false := by
      rw [hlevel, Bool.and_eq_true, Bool.and_eq_true, beq_iff_eq, beq_iff_eq, Bool.not_eq_true', and_assoc]
    have hunder : (c.input.isEmpty && !c.underrun) = true ↔ c.input = [] ∧ c.underrun = false := by
      rw [Bool.and_eq_true, List.isEmpty_iff, Bool.not_eq_true']
    have hput : ∀ u : State, u.channels = s.channels → u.putChannel i t = { u with
        channels := vmod s.channels i fun _ => t
        notices := if c.mode = DuckMode.level ∧ d = c.duckLevel ∧ c.atLevel = false then u.notices ++ [Notice.atLevel i]
          else u.notices } := fun u hu => by
      rw [State.putChannel, State.updChannel, hu, ← hc, if_congr hnotice rfl rfl]
      split <;> rfl
    dsimp only
    rw [htick, if_congr hunder rfl rfl]
    split
    · rw [hput (s.postAudio i .underrun) rfl]
      rfl
    · rw [hput s rfl]
  · rw [State.exciter, if_pos hp]
    refine ⟨by rw [List.length_append, serialBits_length, serialBits_length], fun k hk => ⟨?_, ?_⟩⟩
    · rw [List.getElem?_append_left (by rw [serialBits_length]; exact hk), serialBits_get _ hk]
    · rw [List.getElem?_append_right (by rw [serialBits_length]; omega), serialBits_length, Nat.add_sub_cancel_left,
        serialBits_get _ hk]

/-! ## The delay line -/

/-- Frames written one after another leave every place alone that none of them is written at (R44). -/
theorem Channel.foldl_afterWrite (frames : List Frame) : ∀ c : Channel, Ring.wf c.ring = true → c.writePoint < 2048 →
    (frames.foldl Channel.afterWrite c).writePoint = (c.writePoint + frames.length) % 2048
    ∧ (frames.foldl Channel.afterWrite c).delay = c.delay
    ∧ ∀ place, (∀ j < frames.length, (c.writePoint + j) % 2048 ≠ place) →
        Ring.read (frames.foldl Channel.afterWrite c).ring place = Ring.read c.ring place := by
  induction frames with
  | nil => exact fun c _ hw => ⟨(Nat.mod_eq_of_lt hw).symm, rfl, fun _ _ => rfl⟩
  | cons f frames ih =>
    intro c hring hw
    obtain ⟨hpoint, hdelay, hread⟩ := ih (c.afterWrite f) (Ring.write_wf hring hw) (Nat.mod_lt _ (by decide))
    have hnext : (c.afterWrite f).writePoint = (c.writePoint + 1) % 2048 := rfl
    refine ⟨?_, hdelay, fun place hplace => ?_⟩
    · rw [List.foldl_cons, hpoint, hnext, List.length_cons]
      omega
    · rw [List.foldl_cons, hread place fun j hj => ?_]
      · have h0 := hplace 0 (by rw [List.length_cons]; omega)
        rw [Nat.add_zero, Nat.mod_eq_of_lt hw] at h0
        exact Ring.read_write_other hring (Ne.symm h0)
      · have hj' := hplace (j + 1) (by rw [List.length_cons]; omega)
        rw [hnext]
        omega

/-- Settles O31: the places written since are others, since the delay is below the length of the line. -/
theorem delayLineDelays : Obligations.DelayLineDelays := by
  intro c f later hring hw hd hlen t ht
  obtain ⟨hpoint, hdelay, hread⟩ := Channel.foldl_afterWrite later (c.afterWrite f) (Ring.write_wf hring hw)
    (Nat.mod_lt _ (by decide))
  have hnext : (c.afterWrite f).writePoint = (c.writePoint + 1) % 2048 := rfl
  rw [← ht] at hpoint hdelay hread
  rw [hnext, hlen] at hpoint
  have hplace : ((t.writePoint + 2047) % 2048 + 2048 - t.delay) % 2048 = c.writePoint := by
    rw [hpoint, hdelay, show (c.afterWrite f).delay = c.delay from rfl]
    omega
  refine (congrArg (Ring.read t.ring) hplace).trans ?_
  rw [hread c.writePoint fun j hj => by rw [hnext]; omega]
  exact Ring.read_write_same hring

/-! ## Feature frames and the channel requests -/

theorem Channel.withSettings_eq (c : Channel) (x1 x2 x3 x4 x5 : Half) : c.withSettings x1 x2 x3 x4 x5 = { c with
    delay := min 2047 x1.toNat, trim := min 32767 x2.toNat, duckLevel := min 16384 x3.toNat
    rampStep := max 1 (min 1024 x4.toNat), announceGain := min 32767 x5.toNat
    atLevel := c.mode == .level && c.duckGain == min 16384 x3.toNat } := by
  have h0 : ∀ high n : Nat, clamp 0 high n = min high n := fun high n => Nat.zero_max _
  simp only [Channel.withSettings, Channel.refresh, Channel.reached, h0]
  rfl

/-- Settles O32. -/
theorem featureFramesAndChannelRequests : Obligations.FeatureFramesAndChannelRequests := by
  refine ⟨fun s i l r hp => ⟨fun h => ?_, fun h => ?_⟩, fun s tag b i ht hb => ⟨fun x1 x2 x3 x4 x5 t hteq => ?_, ?_⟩⟩
  · change Host.Outcome.next _ = _
    rw [State.ifPowered, if_pos hp]
    dsimp only
    rw [if_pos h]
    rfl
  · change Host.Outcome.next _ = _
    rw [State.ifPowered, if_pos hp]
    dsimp only
    rw [if_neg (Nat.not_lt.2 h)]
    split <;> rfl
  · have heff : setChannelEffect b x1 x2 x3 x4 x5 s = (s.putChannel i t, .ok (settingsBytes t)) := by
      rw [setChannelEffect, unit_eq hb]
      dsimp only
      rw [Channel.withSettings_eq, hteq]
    rw [State.exec_accepted (r := .setChannel b x1 x2 x3 x4 x5) rfl ht heff]
    refine congrArg (fun u => Host.Outcome.next (State.replied u tag (settingsBytes t))) ?_
    have hnotice : (t.atLevel && !s.channels[i].atLevel) = true ↔ t.atLevel = true ∧ s.channels[i].atLevel = false := by
      rw [Bool.and_eq_true, Bool.not_eq_true']
    rw [State.putChannel, if_congr hnotice rfl rfl]
    split <;> rfl
  · refine State.exec_accepted (r := .getChannel b) rfl ht ?_
    rw [requestEffect, getChannelEffect, unit_eq hb]
    rfl

end Sys2Proof.Machine
end

section
/-! Lanes, admissions and their cars (O38, O40, O41, O42). -/

namespace Sys2Proof.Machine

theorem debounceTimer_eq (raw deb : Bool) (ms : Nat) : debounceTimer raw deb ms = if raw = deb then none else some ms := by
  rw [debounceTimer, if_congr beq_iff_eq rfl rfl]
  rfl

namespace Lane

variable (l : Lane) (loop : Loop)

theorem debounced_mode : (l.debounced loop).mode = l.mode := by cases loop <;> rfl
theorem debounced_pending : (l.debounced loop).pending = l.pending := by cases loop <;> rfl

/-- A raw change to the other level while main power is present (R84). -/
theorem rawChange_a : l.rawChange .a (!l.rawA) true
    = { l with rawA := !l.rawA, timerA := if (!l.rawA) = l.debA then none else some l.debounce } := by
  rw [rawChange, if_neg (by cases l.rawA <;> decide), if_pos rfl, debounceTimer_eq]

theorem rawChange_b : l.rawChange .b (!l.rawB) true
    = { l with rawB := !l.rawB, timerB := if (!l.rawB) = l.debB then none else some l.debounce } := by
  rw [rawChange, if_neg (by cases l.rawB <;> decide), if_pos rfl, debounceTimer_eq]

/-- The lane after a debounced change that completes a movement, before the passage is taken (R87). -/
def passed (loop : Loop) (l : Lane) : Lane := { l.debounced loop with direction := .none }

end Lane

namespace State

variable (s : State) (i : Fin 8)

theorem updLane_congr {f g : Lane → Lane} (h : f s.lanes[i] = g s.lanes[i]) : s.updLane i f = s.updLane i g :=
  congrArg (fun v => { s with lanes := v }) (vmod_congr s.lanes i f g h)

theorem updLane_at (f : Lane → Lane) : (s.updLane i f).lanes[i] = f s.lanes[i] := vmod_at s.lanes i f

theorem exec_loopRawChange (hp : s.powered = true) {loop : Loop} {level : Bool} {f : Lane → Lane}
    (h : s.lanes[i].rawChange loop level true = f s.lanes[i]) :
    exec (.loopRawChange i loop level) s = .next (s.updLane i f) := by
  change Host.Outcome.next _ = _
  rw [hp, s.updLane_congr i h]

theorem exec_loopExpiry {loop : Loop} (hp : s.powered = true) (ht : s.lanes[i].timer loop ≠ none) :
    exec (.loopDebounceExpiry i loop) s = .next (s.loopExpiry i loop) := by
  obtain ⟨ms, hms⟩ := Option.ne_none_iff_exists'.1 ht
  change Host.Outcome.next _ = _
  rw [ifPowered, if_pos hp, hms]

/-! ## What the tracker's result does (R86, R87, R90) -/

/-- A movement leaves the tracker without a direction (R87). -/
theorem track_passed {a b a' b' : Bool} {d : Direction} {p : Passage} (h : (track a b a' b' d).2 = some p) :
    track a b a' b' d = (.none, some p) := by
  unfold track at h ⊢
  by_cases hboth : (a' && b') = true
  · rw [if_pos hboth] at h
    split at h <;> cases h
  · rw [if_neg hboth] at h ⊢
    by_cases hnone : (!a' && !b') = true
    · rw [if_pos hnone] at h ⊢
      rw [← h]
      split <;> rfl
    · rw [if_neg hnone] at h
      cases h

section Tracked

variable {s i} {loop : Loop} {d : Direction} {out : Option Passage}

theorem loopExpiry_disabled (hm : s.lanes[i].mode = .disabled) :
    s.loopExpiry i loop = s.updLane i fun _ => s.lanes[i].debounced loop := if_pos hm

theorem loopExpiry_tracked (hm : s.lanes[i].mode ≠ .disabled)
    (h : track s.lanes[i].debA s.lanes[i].debB (s.lanes[i].debounced loop).debA (s.lanes[i].debounced loop).debB
      s.lanes[i].direction = (d, out)) :
    s.loopExpiry i loop = out.elim (s.updLane i fun _ => { s.lanes[i].debounced loop with direction := d })
      ((s.updLane i fun _ => { s.lanes[i].debounced loop with direction := d }).passage i) := by
  rw [loopExpiry]
  dsimp only
  rw [if_neg hm, h]
  cases out <;> rfl

theorem loopExpiry_passed {p : Passage} (hm : s.lanes[i].mode ≠ .disabled)
    (h : (track s.lanes[i].debA s.lanes[i].debB (s.lanes[i].debounced loop).debA (s.lanes[i].debounced loop).debB
      s.lanes[i].direction).2 = some p) :
    s.loopExpiry i loop = (s.updLane i (Lane.passed loop)).passage i p := by
  rw [loopExpiry_tracked hm (track_passed h), Option.elim_some]
  exact congrArg (State.passage · i p) (s.updLane_congr i rfl)

end Tracked

/-! ## Passages by the lane's mode (R90, R91) -/

section Passages

variable {s i}

theorem passage_exit (hm : s.lanes[i].mode = .exit) :
    s.passage i .forward = s.post i.val .exit ∧ s.passage i .reverse = s.post i.val .wrongWay := by
  simp only [passage, hm, and_self]

theorem passage_complete (hm : s.lanes[i].mode = .entry) {p : Admission} (hp : s.lanes[i].pending = some p) :
    s.passage i .forward = s.complete i p := by
  simp only [passage, hm, hp]

theorem passage_tailgate (hm : s.lanes[i].mode = .entry) (hp : s.lanes[i].pending = none) :
    s.passage i .forward = s.tailgate i := by
  simp only [passage, hm, hp]

theorem passage_backout (hm : s.lanes[i].mode = .entry) : s.passage i .reverse = s.backout i := by
  simp only [passage, hm]

end Passages

/-! ## Tailgates and backouts (R100 to R102) -/

theorem countAttributed_some (a : Attribution) (f : Counts → Counts) :
    s.countAttributed (some a) f = if s.attributed (some a) then s.updRecord a.record fun c => { c with counts := f c.counts }
      else s := rfl

theorem attributed_iff (a : Attribution) : s.attributed (some a) = true
    ↔ s.book.records[a.record].state = .opened ∧ s.book.records[a.record].show_ = some a.show_ := s.takesCount_iff

variable {s i}

/-- A tailgate or backout with an attribution: counted where R100 says so, and reported with the mark. -/
theorem countAttributed_post {a : Attribution} {f : Counts → Counts} {kind : Bool → ReportRecord} :
    (s.countAttributed (some a) f).post i.val (kind (s.attributed (some a)))
      = if s.book.records[a.record].state = .opened ∧ s.book.records[a.record].show_ = some a.show_ then
          (s.updRecord a.record fun c => { c with counts := f c.counts }).post i.val (kind true)
        else s.post i.val (kind false) := by
  rw [countAttributed_some]
  by_cases h : s.attributed (some a) = true
  · rw [if_pos h, if_pos ((s.attributed_iff a).1 h), h]
  · rw [if_neg h, if_neg fun hr => h ((s.attributed_iff a).2 hr), Bool.eq_false_iff.2 h]

theorem tailgate_some {a : Attribution} (ha : s.lanes[i].attribution = some a) :
    s.tailgate i = (s.countAttributed (some a) Counts.addTailgate).post i.val (.tailgate (some a) (s.attributed (some a))) := by
  rw [tailgate, ha]

theorem tailgate_none (ha : s.lanes[i].attribution = none) : s.tailgate i = s.post i.val (.tailgate none false) := by
  rw [tailgate, ha]
  rfl

theorem backout_some {a : Attribution} (ha : s.lanes[i].attribution = some a) :
    s.backout i = (s.countAttributed (some a) Counts.addBackout).post i.val
      (.backout (some a) (s.attributed (some a)) (s.lanes[i].pending.map (·.tag))) := by
  rw [backout, ha]

theorem backout_none (ha : s.lanes[i].attribution = none) :
    s.backout i = s.post i.val (.backout none false (s.lanes[i].pending.map (·.tag))) := by
  rw [backout, ha]
  rfl

end State

/-- Settles O38. -/
theorem loopEvents : Obligations.LoopEvents := by
  unfold Obligations.LoopEvents
  refine ⟨fun s i hp => ?_, fun s i l loop d out hp hl ht htrack s1 hs1 => ?_⟩
  · exact ⟨s.exec_loopRawChange i hp (Lane.rawChange_a _), s.exec_loopRawChange i hp (Lane.rawChange_b _)⟩
  · rw [hl] at htrack
    have hs : s1 = s.updLane i fun _ => { s.lanes[i].debounced loop with direction := d } := by rw [hs1, hl]; rfl
    have h1 : s1.lanes[i] = { l with direction := d } := by rw [hs, State.updLane_at, hl]
    have hlm : l.mode = s.lanes[i].mode := hl ▸ Lane.debounced_mode _ _
    have hrun : l.mode ≠ .disabled →
        exec (.loopDebounceExpiry i loop) s = .next (out.elim s1 (s1.passage i)) := fun hm => by
      rw [s.exec_loopExpiry i hp ht, State.loopExpiry_tracked (hlm ▸ hm) htrack, hs]
    have hmode : s1.lanes[i].mode = l.mode := by rw [h1]
    have hpend : s1.lanes[i].pending = l.pending := by rw [h1]
    have hattr : s1.lanes[i].attribution = l.attribution := by rw [h1]
    refine ⟨fun hm => ?_, fun hm ho => ?_, fun hm ho => ?_, fun hm ho => ?_, fun a hm ho hpn ha => ?_, fun hm ho hpn ha => ?_,
      fun hm ho ha => ?_, fun a hm ho ha => ?_⟩
    · rw [s.exec_loopExpiry i hp ht, State.loopExpiry_disabled (hlm ▸ hm), hl]
      rfl
    · rw [hrun hm, ho]
      rfl
    all_goals rw [hrun (by rw [hm]; decide), ho, Option.elim_some]
    · rw [(State.passage_exit (hmode.trans hm)).1]
    · rw [(State.passage_exit (hmode.trans hm)).2]
    · rw [State.passage_tailgate (hmode.trans hm) (hpend.trans hpn), State.tailgate_some (hattr.trans ha),
        State.countAttributed_post (kind := ReportRecord.tailgate (some a)), hs1]
      rfl
    · rw [State.passage_tailgate (hmode.trans hm) (hpend.trans hpn), State.tailgate_none (hattr.trans ha)]
    · rw [State.passage_backout (hmode.trans hm), State.backout_none (hattr.trans ha), hpend]
    · rw [State.passage_backout (hmode.trans hm), State.backout_some (hattr.trans ha),
        State.countAttributed_post (kind := fun m => ReportRecord.backout (some a) m _), hpend, hs1]
      rfl

/-! ## Completion and the other ends of an admission (R93 to R97) -/

theorem Screen.active_iff (c : Screen) : c.active = true ↔ c.state = .running ∨ c.state = .holding := by
  rw [active, Bool.or_eq_true, beq_iff_eq, beq_iff_eq]

namespace State

variable (s : State) {i : Fin 8}

theorem updCar_eq (tag : Nat) (f : Car → Car) :
    s.updCar tag f = { s with cars := s.cars.map fun c => if c.tag = tag then f c else c } := by
  simp only [updCar, beq_iff_eq]

theorem removeCar_eq (tag : Nat) : s.removeCar tag = { s with cars := s.cars.filter (·.tag ≠ tag) } :=
  congrArg (fun cars => { s with cars := cars })
    (List.filter_congr fun _ _ => Bool.eq_iff_iff.2 (bne_iff_ne.trans decide_eq_true_iff.symm))

theorem lateOf_eq (c : Fin 6) : s.lateOf c = decide ((s.policies c).gate ≠ .admitAll) := by
  rw [lateOf]
  cases (s.policies c).gate <;> rfl

theorem captureOf_eq (c : Fin 6) : s.captureOf c =
    if s.screens[c].state = .running ∨ s.screens[c].state = .holding then s.screens[c].position else none :=
  if_congr (Screen.active_iff _) rfl rfl

theorem complete_eq {p : Admission} {c : Car} {n : Nat} (hf : s.findCar p.tag = some c)
    (hs : s.book.records[c.record].state = .opened) (hn : s.book.records[c.record].show_ = some n) :
    s.complete i p = ((((s.updCar p.tag fun x => { x with
        state := .onLot, admitted := some s.book.siteTime, capture := s.captureOf c.screen, late := s.lateOf c.screen }).updRecord
        c.record fun x => { x with counts := x.counts.addAdmission (s.lateOf c.screen) c.occupants }).updLane i fun l =>
          { l.ended with attribution := some ⟨c.screen, c.record, n⟩ }).post i.val
        (.admitted c.tag c.screen c.record c.occupants (s.lateOf c.screen) (s.captureOf c.screen))) := by
  rw [complete, hf]
  dsimp only
  rw [showOf_eq hn, count_opened (by exact hs) (by exact hn)]

theorem endAdmission_eq (p : Admission) (reason : AdmissionEnd) : s.endAdmission i p reason = { s with
    cars := s.cars.filter (·.tag ≠ p.tag)
    lanes := vmod s.lanes i fun l => { l with admTimer := none, pending := none, barrierUp := false }
    link := s.link.postReport ⟨s.book.siteTime, i.val, .admissionEnded p.tag p.screen p.record reason⟩ } := by
  rw [endAdmission, removeCar_eq]
  rfl

end State

/-- Settles O40. -/
theorem forwardPassageCompletes : Obligations.ForwardPassageCompletes := by
  unfold Obligations.ForwardPassageCompletes
  intro s i loop p c n late capture hp ht hm hpend htrack hc hs hn hlate hcapture
  rw [s.exec_loopExpiry i hp ht, State.loopExpiry_passed (by rw [hm]; decide) htrack,
    State.passage_complete (by rw [State.updLane_at]; exact (Lane.debounced_mode _ _).trans hm)
      (by rw [State.updLane_at]; exact (Lane.debounced_pending _ _).trans hpend),
    (s.updLane i (Lane.passed loop)).complete_eq (c := c) hc hs hn, State.updCar_eq, State.lateOf_eq, State.captureOf_eq]
  subst hlate hcapture
  simp only [State.post, State.updLink, State.updRecord, State.updLane, vmod_vmod]
  rfl

/-- Settles O41. -/
theorem admitRaisesTheBarrier : Obligations.AdmitRaisesTheBarrier := by
  unfold Obligations.AdmitRaisesTheBarrier
  intro s tag bl bs bo x i c r ht hl hs hx ho1 ho15 hm hpend hg hcar hlot hb
  rw [State.exec_accepted (r := .admitCar bl x bs bo) rfl ht]
  rw [requestEffect, admitCarEffect, unit_eq hl, unit_eq hs]
  dsimp only
  rw [if_neg fun h => h.elim hx (by omega), if_neg (not_not.2 hm), hpend, if_neg (by decide), if_neg hg, hcar, if_neg (by decide),
    if_neg (Nat.not_le.2 hlot), hb, Option.getD_some]
  rfl

/-- Settles O42. -/
theorem admissionEndsUnused : Obligations.AdmissionEndsUnused := by
  unfold Obligations.AdmissionEndsUnused
  intro s i p hpend
  refine ⟨fun ms n hp ht hs hn => ?_, fun tag b ht hb => ?_⟩
  · change Host.Outcome.next _ = _
    rw [State.ifPowered, if_pos hp, ht, hpend]
    dsimp only
    rw [State.expireAdmission, State.showOf_eq hn, State.count_opened hs hn, State.endAdmission_eq]
    rfl
  · rw [State.exec_accepted (r := .cancelAdmit b) rfl ht]
    rw [requestEffect, cancelAdmitEffect, unit_eq hb]
    dsimp only
    rw [hpend]
    dsimp only
    rw [State.endAdmission_eq]
    rfl

end Sys2Proof.Machine
end

section
/-! Settings of lanes, site and count book, the buttons, and the kitchen's requests and estimates (O43, O45, O47, O48, O49). -/

namespace Sys2Proof.Machine

/-- A stored code sent back is the byte that brought it. -/
theorem u8_of_toNat {b : Byte} {n : Nat} (h : b.toNat = n) : u8 n = [b] := by
  rw [u8, ← h, BitVec.ofNat_toNat, BitVec.setWidth_eq]

theorem u16_toNat (x : Half) : u16 x.toNat = putHalf x := by
  rw [u16, BitVec.ofNat_toNat, BitVec.setWidth_eq]

theorem laneMode_code {b : Byte} {m : LaneMode} (h : b.toNat = m.code) : laneMode? b = some m := by
  rw [laneMode?, h]
  cases m <;> rfl

theorem countPolicy_code {b : Byte} {p : CountPolicy} (h : b.toNat = p.code) : countPolicy? b = some p := by
  rw [countPolicy?, h]
  cases p <;> rfl

/-! ## SET_LANE and SET_SITE -/

theorem setLaneEffect_accepted (s : State) {b bm : Byte} {x y : Half} {i : Fin 8} {m : LaneMode} (hb : b.toNat = i.val)
    (hm : bm.toNat = m.code) (h : s.lanes[i].pending = none ∨ m = s.lanes[i].mode) :
    setLaneEffect b bm x y s = (s.updLane i fun l => l.withSettings m x.toNat y.toNat,
      .ok ([bm] ++ u16 (clamp 50 1000 x.toNat) ++ u16 (clamp 10 300 y.toNat))) := by
  have hok : ¬ (s.lanes[i].pending.isSome = true ∧ m ≠ s.lanes[i].mode) := fun hr =>
    h.elim (fun hn => absurd hr.1 (by rw [hn]; decide)) hr.2
  rw [setLaneEffect, unit_eq hb, laneMode_code hm]
  dsimp only
  rw [if_neg hok, s.updLane_congr i (f := fun _ => _) (g := fun l => l.withSettings m x.toNat y.toNat) rfl, ← u8_of_toNat hm]
  rfl

theorem setLaneEffect_busy (s : State) {b bm : Byte} {x y : Half} {i : Fin 8} {m : LaneMode} (hb : b.toNat = i.val)
    (hm : bm.toNat = m.code) (hp : s.lanes[i].pending ≠ none) (h : m ≠ s.lanes[i].mode) :
    setLaneEffect b bm x y s = (s, .refused .laneBusy) := by
  rw [setLaneEffect, unit_eq hb, laneMode_code hm]
  dsimp only
  rw [if_pos ⟨Option.isSome_iff_ne_none.2 hp, h⟩]

theorem clipOk_iff (h : Half) : clipOk h = true ↔ 1 ≤ h.toNat ∧ h.toNat ≤ 255 := by
  rw [clipOk, Bool.and_eq_true, decide_eq_true_iff, decide_eq_true_iff]

theorem capacityInUse_iff (s : State) (g : SiteSettings) :
    (allScreens.any fun i => g.capacity.get i < s.carCount i) = true ↔ ∃ i : Fin 6, g.capacity.get i < s.carCount i := by
  rw [List.any_eq_true]
  exact ⟨fun ⟨i, _, h⟩ => ⟨i, of_decide_eq_true h⟩, fun ⟨i, h⟩ => ⟨i, mem_allScreens i, decide_eq_true h⟩⟩

theorem setSiteEffect_accepted (s : State) {w : SiteWire} {ws : Six (Fin 2)} (hw : windows? w.window = some ws)
    (ho : clipOk w.orderClip = true) (hr : clipOk w.recallClip = true) (hsum : (settingsOf w ws).capacity.toList.sum ≤ 2048)
    (hcap : ∀ i : Fin 6, s.carCount i ≤ (settingsOf w ws).capacity.get i) :
    setSiteEffect w s = ({ s with site := settingsOf w ws }, .ok (siteBytes (settingsOf w ws) ++ s.carCountBytes)) := by
  rw [setSiteEffect, hw]
  dsimp only
  rw [ho, hr, if_neg (by decide), if_neg (Nat.not_lt.2 hsum),
    if_neg fun h => absurd ((capacityInUse_iff s _).1 h) fun ⟨i, hi⟩ => absurd (hcap i) (Nat.not_le.2 hi)]

/-- Settles O43. -/
theorem laneAndSiteSettings : Obligations.LaneAndSiteSettings := by
  unfold Obligations.LaneAndSiteSettings
  refine ⟨fun s tag b bm x y i m ht hb hm => ⟨fun h => ?_, fun hp h => ?_⟩,
    fun s tag w win g ht hw ho1 ho2 hr1 hr2 hg hsum hcap => ?_⟩
  · rw [State.exec_accepted (r := .setLane b bm x y) rfl ht (setLaneEffect_accepted s hb hm h)]
    rfl
  · exact State.exec_refused (r := .setLane b bm x y) rfl ht (setLaneEffect_busy s hb hm hp h)
  · have hset : settingsOf w win = g := by
      rw [hg]
      simp only [settingsOf, clamp, Nat.zero_max]
      rfl
    subst hset
    rw [State.exec_accepted (r := .setSite w) rfl ht
      (setSiteEffect_accepted s hw ((clipOk_iff _).2 ⟨ho1, ho2⟩) ((clipOk_iff _).2 ⟨hr1, hr2⟩) hsum hcap)]
    rfl

/-! ## The audit key and the count policy -/

theorem releaseCountEffect_accepted (s : State) {b : Byte} {r : Fin 16} (hb : b.toNat = r.val)
    (hs : s.book.records[r].state = .closed) (h : s.book.policy = .free ∨ s.key.office = true) :
    releaseCountEffect b s = (s.updRecord r fun _ => .freed, .ok (recordBytes r s.book.records[r])) := by
  have hkey : ¬ (s.book.policy = .keyed ∧ s.key.office = false) := fun ⟨hp, ho⟩ =>
    h.elim (fun hf => absurd (hf.symm.trans hp) (by decide)) fun ht => absurd (ht.symm.trans ho) (by decide)
  rw [releaseCountEffect, unit_eq hb]
  dsimp only
  rw [if_neg hkey, if_pos hs]

theorem releaseCountEffect_keyed (s : State) {b : Byte} {r : Fin 16} (hb : b.toNat = r.val) (hp : s.book.policy = .keyed)
    (ho : s.key.office = false) : releaseCountEffect b s = (s, .refused .keyRequired) := by
  rw [releaseCountEffect, unit_eq hb]
  dsimp only
  rw [if_pos ⟨hp, ho⟩]

theorem setCountPolicyEffect_eq (s : State) {b : Byte} {p : CountPolicy} (hb : b.toNat = p.code) :
    setCountPolicyEffect b s = if s.key.office then ({ s with book := { s.book with policy := p } }, .ok [b])
      else (s, .refused .keyRequired) := by
  rw [setCountPolicyEffect, countPolicy_code hb]
  dsimp only
  rw [u8_of_toNat hb]

/-- Settles O45. -/
theorem auditKeyAndPolicy : Obligations.AuditKeyAndPolicy := by
  unfold Obligations.AuditKeyAndPolicy
  refine ⟨fun s hp => ⟨?_, fun ms hms => ?_⟩, fun s tag b ht => ⟨fun r hb => ⟨fun hs h => ?_, fun hk ho => ?_⟩,
    fun p hb => ⟨fun ho => ?_, fun ho => ?_⟩⟩⟩
  · change Host.Outcome.next _ = _
    rw [if_neg (by cases s.key.raw <;> decide), if_pos hp, debounceTimer_eq]
  · change Host.Outcome.next _ = _
    rw [State.ifPowered, if_pos hp, hms]
    rfl
  · rw [State.exec_accepted (r := .releaseCount b) rfl ht (releaseCountEffect_accepted s hb hs h)]
    rfl
  · exact State.exec_refused (r := .releaseCount b) rfl ht (releaseCountEffect_keyed s hb hk ho)
  · rw [State.exec_accepted (r := .setCountPolicy b) rfl ht ((setCountPolicyEffect_eq s hb).trans (if_pos ho))]
  · exact State.exec_refused (r := .setCountPolicy b) rfl ht
      ((setCountPolicyEffect_eq s hb).trans (if_neg (by rw [ho]; decide)))

/-! ## Buttons -/

theorem Button.rawChange_toggled (b : Button) :
    b.rawChange (!b.raw) true = { b with raw := !b.raw, timer := if (!b.raw) = b.deb then none else some 50 } := by
  rw [rawChange, if_neg (by cases b.raw <;> decide), if_pos rfl, debounceTimer_eq]

theorem Button.raw_of_presses {b : Button} (h : b.presses = true) : ¬ b.raw = false :=
  Bool.not_eq_false _ ▸ (Bool.and_eq_true_iff.1 h).1

namespace State

variable (s : State)

theorem updStation_congr (st : Fin 4) {f g : Station → Station} (h : f s.kitchen.stations[st] = g s.kitchen.stations[st]) :
    s.updStation st f = s.updStation st g :=
  congrArg (fun v => { s with kitchen := { s.kitchen with stations := v } }) (vmod_congr s.kitchen.stations st f g h)

theorem updHanded_congr (w : Fin 2) {f g : Button → Button} (h : f s.orders.handed[w] = g s.orders.handed[w]) :
    s.updHanded w f = s.updHanded w g :=
  congrArg (fun v => { s with orders := { s.orders with handed := v } }) (vmod_congr s.orders.handed w f g h)

theorem exec_bumpRawChange {st : Fin 4} {level : Bool} (hp : s.powered = true) {f : Station → Station}
    (h : { s.kitchen.stations[st] with bump := s.kitchen.stations[st].bump.rawChange level true } = f s.kitchen.stations[st]) :
    exec (.bumpRawChange st level) s = .next (s.updStation st f) := by
  change Host.Outcome.next _ = _
  rw [hp]
  exact congrArg Host.Outcome.next (s.updStation_congr st h)

theorem exec_handedRawChange {w : Fin 2} {level : Bool} (hp : s.powered = true) {f : Button → Button}
    (h : s.orders.handed[w].rawChange level true = f s.orders.handed[w]) :
    exec (.handedRawChange w level) s = .next (s.updHanded w f) := by
  change Host.Outcome.next _ = _
  rw [hp]
  exact congrArg Host.Outcome.next (s.updHanded_congr w h)

theorem exec_bumpExpiry {st : Fin 4} {ms : Nat} (hp : s.powered = true) (ht : s.kitchen.stations[st].bump.timer = some ms) :
    exec (.bumpDebounceExpiry st) s = .next (
      if s.kitchen.stations[st].bump.presses then
        (s.updStation st fun x => { x with bump := s.kitchen.stations[st].bump.expired }).bump st
      else s.updStation st fun x => { x with bump := s.kitchen.stations[st].bump.expired }) := by
  change Host.Outcome.next _ = _
  rw [ifPowered, if_pos hp]
  dsimp only
  rw [ht]

theorem exec_handedExpiry {w : Fin 2} {ms : Nat} (hp : s.powered = true) (ht : s.orders.handed[w].timer = some ms) :
    exec (.handedDebounceExpiry w) s = .next (
      if s.orders.handed[w].presses then (s.updHanded w fun _ => s.orders.handed[w].expired).handOver w
      else s.updHanded w fun _ => s.orders.handed[w].expired) := by
  change Host.Outcome.next _ = _
  rw [ifPowered, if_pos hp]
  dsimp only
  rw [ht]

theorem bump_nil {st : Fin 4} (h : s.kitchen.stations[st].queue = []) : s.bump st = s := by
  rw [bump, h]

theorem bump_cons {st : Fin 4} {t : Ticket} {rest : List Ticket} (h : s.kitchen.stations[st].queue = t :: rest) :
    s.bump st = (s.updStation st fun x => { x with queue := promote rest s.kitchen.clock }).hand (.ticketDone t.order st) := by
  rw [bump, h]

theorem handOver_nil {w : Fin 2} (h : s.orders.ready[w] = []) : s.handOver w = s := by
  rw [handOver, h]

end State

/-- Settles O48. -/
theorem buttons : Obligations.Buttons := by
  unfold Obligations.Buttons
  refine ⟨fun s hp => ⟨fun st => ?_, fun w ms ht h => ?_, fun w => ?_⟩, fun s st x ms hp hx ht => ⟨fun h rest hr hd hq => ?_,
    fun h => ?_⟩⟩
  · exact s.exec_bumpRawChange hp
      (congrArg (fun b => { s.kitchen.stations[st] with bump := b }) (Button.rawChange_toggled _))
  · rw [s.exec_handedExpiry hp ht]
    refine congrArg Host.Outcome.next (Eq.trans ?_ (s.updHanded_congr w (f := fun _ => s.orders.handed[w].expired) rfl))
    split
    · next hpress => exact State.handOver_nil _ (h.resolve_left (Button.raw_of_presses hpress))
    · rfl
  · exact s.exec_handedRawChange hp (Button.rawChange_toggled _)
  · subst hx
    rw [s.exec_bumpExpiry hp ht, if_pos (by rw [Button.presses, hr, hd]; rfl),
      State.bump_cons (t := h) (rest := rest) _ ((congrArg Station.queue (vmod_at s.kitchen.stations st _)).trans hq)]
    have hexp : s.kitchen.stations[st].bump.expired = ⟨true, true, none⟩ := by rw [Button.expired, hr]
    simp only [State.hand, State.updStation, vmod_vmod, hexp]
    cases rest <;> rfl
  · subst hx
    rw [s.exec_bumpExpiry hp ht]
    refine congrArg Host.Outcome.next (Eq.trans ?_
      (s.updStation_congr st (f := fun x => { x with bump := s.kitchen.stations[st].bump.expired }) rfl))
    split
    · next hpress =>
      exact State.bump_nil _ ((congrArg Station.queue (vmod_at s.kitchen.stations st _)).trans
        (h.resolve_left (Button.raw_of_presses hpress)))
    · rfl

end Sys2Proof.Machine
end

section
/-! The kitchen's requests and estimates (O47, O49). -/

namespace Sys2Proof.Machine

/-! ## The largest of some values -/

theorem le_foldl_max {α : Type} (f : α → Nat) (xs : List α) (m : Nat) :
    m ≤ xs.foldl (fun m x => max m (f x)) m ∧ ∀ x ∈ xs, f x ≤ xs.foldl (fun m x => max m (f x)) m := by
  induction xs generalizing m with
  | nil => exact ⟨le_rfl, nofun⟩
  | cons x xs ih =>
    obtain ⟨hm, hall⟩ := ih (max m (f x))
    refine ⟨(le_max_left ..).trans hm, fun y hy => ?_⟩
    rcases List.mem_cons.1 hy with rfl | hy
    · exact (le_max_right ..).trans hm
    · exact hall y hy

theorem foldl_max_attained {α : Type} (f : α → Nat) (xs : List α) (m : Nat) :
    xs.foldl (fun m x => max m (f x)) m = m ∨ ∃ x ∈ xs, xs.foldl (fun m x => max m (f x)) m = f x := by
  induction xs generalizing m with
  | nil => exact .inl rfl
  | cons x xs ih =>
    rcases ih (max m (f x)) with h | ⟨y, hy, h⟩
    · rcases max_choice m (f x) with hmax | hmax
      · exact .inl (h.trans hmax)
      · exact .inr ⟨x, List.mem_cons_self .., h.trans hmax⟩
    · exact .inr ⟨y, List.mem_cons_of_mem _ hy, h⟩

/-- Settles O49. -/
theorem estimateArithmetic : Obligations.EstimateArithmetic := by
  unfold Obligations.EstimateArithmetic
  intro k lines st
  have hle : ∀ x, k.stationEstimate lines x ≤ 3600 := fun _ => min_le_left ..
  have hest := foldl_max_attained (k.stationEstimate lines) (stationsOf k.menu lines) 0
  refine ⟨fun own hown => ?_, rfl, fun h rest c hc => ?_, rfl, (le_foldl_max _ _ 0).2 st, hest, ?_⟩
  · rw [hown, List.foldl_map]
    rfl
  · rw [timeAhead, Ticket.remaining, hc]
    dsimp only
    rw [BitVec.toNat_sub, Nat.add_comm (2 ^ 32 - _), ← Nat.add_sub_assoc (le_of_lt c.isLt)]
  · rcases hest with h | ⟨x, _, h⟩
    · exact h.le.trans (Nat.zero_le _)
    · exact h.le.trans (hle x)

/-! ## LOAD_MENU, SET_STOCK and SET_STATION -/

/-- The menu after LOAD_MENU: the items from the start on are those delivered, as far as they go (R140). -/
theorem writeItems_get (menu : Vector Item 128) (start : Nat) (items : List Item) (i : Fin 128) :
    (writeItems menu start items)[i] = if i.val < start then menu[i] else (items[i.val - start]?).getD menu[i] := by
  induction items generalizing menu start with
  | nil => rw [writeItems, List.getElem?_nil, Option.getD_none, ite_self]
  | cons it rest ih =>
    have hput : (if h : start < 128 then menu.set start it else menu)[i] = if i.val = start then it else menu[i] := by
      split
      · next h =>
        rw [Fin.getElem_fin, Vector.getElem_set, if_congr eq_comm rfl rfl]
        rfl
      · next h => rw [if_neg fun (hi : i.val = start) => h (hi ▸ i.isLt)]
    rw [writeItems, ih, hput]
    rcases Nat.lt_trichotomy i.val start with hlt | heq | hgt
    · rw [if_pos (by omega), if_pos hlt, if_neg hlt.ne]
    · rw [if_pos (by omega), if_pos heq, if_neg heq.not_lt, Nat.sub_eq_zero_of_le heq.le, List.getElem?_cons_zero,
        Option.getD_some]
    · rw [if_neg (by omega), if_neg hgt.ne', if_neg (by omega), show i.val - start = i.val - (start + 1) + 1 by omega,
        List.getElem?_cons_succ]

theorem loadMenuEffect_accepted (s : State) {b : Byte} {wires : List ItemWire} {items : List Item} (h1 : 1 ≤ wires.length)
    (h2 : b.toNat + wires.length ≤ 128) (hr : readAll item? wires = some items) :
    loadMenuEffect b wires s = ({ s with kitchen := { s.kitchen with menu := writeItems s.kitchen.menu b.toNat items } },
      .ok ([b] ++ u8 wires.length)) := by
  rw [loadMenuEffect, if_neg (by omega), hr]
  dsimp only
  rw [u8_of_toNat rfl, readAll_length hr]

theorem flagOf_zero (k : Byte) {α : Type} (x y : α) : (if flagOf k then x else y) = if k = 0 then y else x := by
  rw [if_congr (flagOf_iff k) rfl rfl, ite_not]

theorem setStockEffect_accepted (s : State) {b k : Byte} {x y : Half} {i : Fin 128} (hb : b.toNat = i.val)
    (hx : k ≠ 0 → x.toNat ≤ 9999) (hy : y.toNat ≤ 9999) :
    setStockEffect b k x y s = (s.updItem i fun it => { it with stock := if k = 0 then none else some x.toNat, low := y.toNat },
      .ok ([b] ++ optional u16 s.kitchen.menu[i].stock ++ (if k = 0 then [0] else 1 :: putHalf x) ++ putHalf y)) := by
  rw [setStockEffect, unit_eq hb]
  dsimp only
  rw [if_neg (not_or.2 ⟨fun ⟨hk, hgt⟩ => absurd (hx ((flagOf_iff k).1 hk)) (Nat.not_le.2 hgt), Nat.not_lt.2 hy⟩), flagOf_zero,
    u8_of_toNat hb, u16_toNat]
  split
  · rfl
  · rw [← u16_toNat x]
    rfl

theorem setStationEffect_accepted (s : State) {b o : Byte} {x : Half} {st : Fin 4} {t : Station} (hb : b.toNat = st.val)
    (ht : t = { s.kitchen.stations[st] with opened := o != 0, perUnit := min 120 x.toNat }) :
    setStationEffect b o x s = (s.updStation st fun _ => t, .ok (stationBytes t s.kitchen.clock)) := by
  subst ht
  rw [setStationEffect, unit_eq hb]
  dsimp only
  have hst : (vmod s.kitchen.stations st fun t => { t with opened := flagOf o, perUnit := min 120 x.toNat })[st]
      = { s.kitchen.stations[st] with opened := flagOf o, perUnit := min 120 x.toNat } := vmod_at ..
  exact Prod.ext (s.updStation_congr st rfl) (congrArg (fun t => Answer.ok (stationBytes t s.kitchen.clock)) hst)

theorem item_iff (w : ItemWire) (it : Item) : item? w = some it ↔
    w.station.toNat = it.station.val ∧ it.prep = min 1800 w.prep.toNat ∧ (it.available = true ↔ w.available ≠ 0)
      ∧ w.low.toNat ≤ 9999 ∧ it.low = w.low.toNat
      ∧ ((w.tracked = 0 ∧ it.stock = none) ∨ (w.tracked ≠ 0 ∧ w.stock.toNat ≤ 9999 ∧ it.stock = some w.stock.toNat)) := by
  obtain ⟨station, prep, available, stock, low⟩ := it
  rw [flagOf_eq_iff, item?]
  dsimp only
  cases hst : unit? 4 w.station with
  | none => exact ⟨nofun, fun h => absurd (hst.symm.trans (unit_iff.2 h.1)) nofun⟩
  | some st =>
    dsimp only
    by_cases hbad : (flagOf w.tracked = true ∧ w.stock.toNat > 9999) ∨ w.low.toNat > 9999
    · rw [if_pos hbad]
      refine ⟨nofun, fun ⟨_, _, _, hlow, _, hstock⟩ => ?_⟩
      rcases hbad with ⟨hk, hgt⟩ | hgt
      · rcases hstock with ⟨hk', _⟩ | ⟨_, hle, _⟩
        · exact absurd hk' ((flagOf_iff _).1 hk)
        · exact absurd hle (Nat.not_le.2 hgt)
      · exact absurd hlow (Nat.not_le.2 hgt)
    · obtain ⟨hstock, hlow⟩ := not_or.1 hbad
      rw [if_neg hbad, flagOf_zero, Option.some.injEq, Item.mk.injEq, ← unit_iff, hst, Option.some.injEq]
      refine and_congr Iff.rfl (and_congr eq_comm (and_congr Iff.rfl ?_))
      rw [and_comm]
      refine Iff.trans (and_congr eq_comm ?_) (and_iff_right (Nat.not_lt.1 hlow)).symm
      by_cases hk : w.tracked = 0
      · rw [if_pos hk]
        exact ⟨fun h => .inl ⟨hk, h.symm⟩, fun h => (h.resolve_right fun hr => hr.1 hk).2.symm⟩
      · rw [if_neg hk]
        exact ⟨fun h => .inr ⟨hk, Nat.not_lt.1 fun hgt => hstock ⟨(flagOf_iff _).2 hk, hgt⟩, h.symm⟩,
          fun h => (h.resolve_left fun hl => hk hl.1).2.2.symm⟩

/-- Settles O47. -/
theorem kitchenRequests : Obligations.KitchenRequests := by
  unfold Obligations.KitchenRequests
  refine ⟨fun s tag b ht => ⟨fun wires items h1 h113 hend hr => ?_, fun i k x y hb hx hy => ?_, fun st o x t hb hst => ?_⟩,
    readAll_iff item?, item_iff⟩
  · refine ⟨writeItems s.kitchen.menu b.toNat items, ?_, writeItems_get _ _ _⟩
    rw [State.exec_accepted (r := .loadMenu b wires) rfl ht (loadMenuEffect_accepted s h1 hend hr) (decide_eq_true (by omega))]
    rfl
  · rw [State.exec_accepted (r := .setStock b k x y) rfl ht (setStockEffect_accepted s hb hx hy)]
    rfl
  · rw [State.exec_accepted (r := .setStation b o x) rfl ht (setStationEffect_accepted s hb hst)]
    rfl

end Sys2Proof.Machine
end

section
/-! Orders: calls, ticket-done notices, recalls, and the end of a READY or CALLED order (O51, O52, O53, O54). -/

namespace Sys2Proof.Machine

/-! ## The order table by number -/

namespace State

variable (s : State)

theorem updOrder_eq (n : Nat) (f : Order → Order) : s.updOrder n f = { s with
    orders := { s.orders with table := s.orders.table.map fun o => if o.number = n then f o else o } } := by
  simp only [updOrder, updOrders, beq_iff_eq]

theorem removeOrder_eq (n : Nat) : s.removeOrder n = { s with
    orders := { s.orders with table := s.orders.table.filter (·.number ≠ n) } } :=
  congrArg (fun table => { s with orders := { s.orders with table := table } })
    (List.filter_congr fun _ _ => Bool.eq_iff_iff.2 (bne_iff_ne.trans decide_eq_true_iff.symm))

theorem findOrder_spec {n : Nat} {o : Order} (h : s.findOrder n = some o) : o ∈ s.orders.table ∧ o.number = n :=
  ⟨List.mem_of_find?_eq_some h, beq_iff_eq.1 (List.find?_some h :)⟩

theorem findOrder_none {n : Nat} (h : ∀ o ∈ s.orders.table, o.number ≠ n) : s.findOrder n = none :=
  List.find?_eq_none.2 fun o ho => by rw [beq_iff_eq]; exact h o ho

end State

/-- A change of an order that keeps its number is lost when the order is removed. -/
theorem filter_map_number (xs : List Order) (n : Nat) (f : Order → Order) (hf : ∀ o, (f o).number = o.number) :
    (xs.map fun o => if o.number = n then f o else o).filter (·.number ≠ n) = xs.filter (·.number ≠ n) := by
  induction xs with
  | nil => rfl
  | cons o xs ih =>
    rw [List.map_cons]
    by_cases h : o.number = n
    · rw [if_pos h, List.filter_cons_of_neg (by rw [hf, h]; simp), List.filter_cons_of_neg (by rw [h]; simp), ih]
    · rw [if_neg h, List.filter_cons_of_pos (by simpa using h), List.filter_cons_of_pos (by simpa using h), ih]

/-- With distinct numbers a change of an order's record is one of the record that was found. -/
theorem map_found {xs : List Order} (hd : (xs.map (·.number)).Nodup) {o : Order} (ho : o ∈ xs) (f : Order → Order → Order) :
    (xs.map fun p => if p.number = o.number then f o p else p) = xs.map fun p => if p.number = o.number then f p p else p :=
  List.map_congr_left fun p hp => by
    split
    · next h => rw [List.inj_on_of_nodup_map hd hp ho h]
    · rfl

/-! ## Counts into a record -/

/-- The count book after a count notice (R100, R126). -/
def CountBook.withCount (b : CountBook) (r : Fin 16) (n : Nat) (f : Counts → Counts) : CountBook :=
  if b.records[r].state = .opened ∧ b.records[r].show_ = some n then
    { b with records := vmod b.records r fun c => { c with counts := f c.counts } }
  else b

namespace State

variable (s : State)

theorem takesCount_eq (r : Fin 16) (n : Nat) :
    s.takesCount r n = decide (s.book.records[r].state = .opened ∧ s.book.records[r].show_ = some n) :=
  Bool.eq_iff_iff.2 (takesCount_iff.trans decide_eq_true_iff.symm)

theorem count_eq (r : Fin 16) (n : Nat) (f : Counts → Counts) : s.count r n f = { s with book := s.book.withCount r n f } := by
  rw [count, if_congr takesCount_iff rfl rfl, CountBook.withCount]
  split <;> rfl

end State

theorem CountBook.withCount_opened {b : CountBook} {r : Fin 16} {n : Nat} (hs : b.records[r].state = .opened)
    (hn : b.records[r].show_ = some n) (f : Counts → Counts) :
    b.withCount r n f = { b with records := vmod b.records r fun c => { c with counts := f c.counts } } := if_pos ⟨hs, hn⟩

theorem CountBook.withCount_siteTime (b : CountBook) (r : Fin 16) (n : Nat) (f : Counts → Counts) :
    (b.withCount r n f).siteTime = b.siteTime := by
  rw [withCount]
  split <;> rfl

/-! ## An order's waiting or deferred call leaves (R77, R174) -/

theorem Entry.isCallOf_iff (e : Entry) (n : Nat) : e.isCallOf n = true ↔ (∃ k, e.kind = .call k) ∧ e.order = some n := by
  rw [isCallOf]
  cases e.kind with
  | call k => exact beq_iff_eq.trans ⟨fun h => ⟨⟨k, rfl⟩, h⟩, fun h => h.2⟩
  | _ => exact ⟨nofun, nofun⟩

theorem Entry.isCallOf_eq (e : Entry) (n : Nat) :
    e.isCallOf n = ((e.kind == .call .orderReady || e.kind == .call .recall) && e.order == some n) := by
  rw [isCallOf]
  cases e.kind with
  | call k => cases k <;> rfl
  | _ => rfl

namespace Order

variable (o : Order)

/-- The deferred list after the order's call has gone. -/
def deferredLeft (deferred : List Deferred) : List Deferred :=
  if o.deferredMark then deferred.filter (·.order != o.number) else deferred

/-- The announcement queue after the order's call has gone. -/
def queueLeft (queue : List Entry) : List Entry := if o.deferredMark then queue else queue.eraseP (·.isCallOf o.number)

/-- The slot-free notice of a call that left the announcement queue (R78). -/
def slotFreed (queue : List Entry) : List Notice :=
  if !o.deferredMark && queue.any (·.isCallOf o.number) then [.slotFree] else []

/-- The record in the table as an end leaves it, before it leaves the table. -/
def uncalled (p : Order) : Order :=
  if p.number = o.number then { p with recallTimer := none, deferredMark := !o.deferredMark && p.deferredMark } else p

end Order

namespace State

variable (s : State) (o : Order)

/-- Steps 1 to 3 of R174: the recall timer, the ready list, and the waiting or deferred call. -/
def served : State :=
  { s with
    orders := { s.orders with
      table := s.orders.table.map o.uncalled
      ready := vmod s.orders.ready o.window fun l => l.erase o.number
      deferred := o.deferredLeft s.orders.deferred }
    announce := { s.announce with queue := o.queueLeft s.announce.queue }
    notices := s.notices ++ o.slotFreed s.announce.queue }

theorem withdraw_eq (n : Nat) : s.withdraw n = { s with
    announce := { s.announce with queue := s.announce.queue.eraseP (·.isCallOf n) }
    notices := s.notices ++ if s.announce.queue.any (·.isCallOf n) then [.slotFree] else [] } := by
  rw [withdraw]
  split
  · rfl
  · next h =>
    rw [List.eraseP_of_forall_not fun e he hc => h (List.any_eq_true.2 ⟨e, he, hc⟩), List.append_nil]

theorem served_eq : ((s.stopRecall o).leaveReady o).dropCall o = s.served o := by
  rw [stopRecall, updOrder_eq, dropCall, served]
  cases hm : o.deferredMark with
  | true =>
    have htable : ((s.orders.table.map fun p => if p.number = o.number then { p with recallTimer := none } else p).map
        fun p => if p.number = o.number then { p with deferredMark := false } else p) = s.orders.table.map o.uncalled := by
      rw [List.map_map]
      refine List.map_congr_left fun p _ => ?_
      rw [Function.comp_apply, Order.uncalled, hm]
      by_cases hp : p.number = o.number
      · rw [if_pos hp, if_pos hp, if_pos hp]
        rfl
      · rw [if_neg hp, if_neg hp, if_neg hp]
    rw [if_pos rfl, updOrder_eq, ← htable, Order.deferredLeft, Order.queueLeft, Order.slotFreed, hm]
    simp only [leaveReady, updOrders, if_true, Bool.not_true, Bool.false_and, Bool.false_eq_true, if_false, List.append_nil]
  | false =>
    have htable : (s.orders.table.map fun p => if p.number = o.number then { p with recallTimer := none } else p)
        = s.orders.table.map o.uncalled := by
      refine List.map_congr_left fun p _ => ?_
      rw [Order.uncalled, hm, Bool.not_false, Bool.true_and]
    rw [if_neg (by decide), withdraw_eq, ← htable, Order.deferredLeft, Order.queueLeft, Order.slotFreed, hm]
    simp only [leaveReady, updOrders, Bool.not_false, Bool.true_and, Bool.false_eq_true, if_false]
    rfl

/-- The state after a READY or CALLED order has come to an end (R174, R175, R176). -/
def endServed (f : Counts → Counts) (reason : OrderEnd) : State :=
  { s with
    orders := { s.orders with
      table := s.orders.table.filter (·.number ≠ o.number)
      ready := vmod s.orders.ready o.window fun l => l.erase o.number
      deferred := o.deferredLeft s.orders.deferred }
    cars := s.cars.map fun c => if c.tag = o.tag then { c with openOrders := c.openOrders - 1 } else c
    book := s.book.withCount o.record o.show_ f
    announce := { s.announce with queue := o.queueLeft s.announce.queue }
    notices := s.notices ++ o.slotFreed s.announce.queue
    link := s.link.postReport ⟨s.book.siteTime, o.window.val, .orderEnded o.number o.tag o.screen reason o.calls true
      (decide (s.book.records[o.record].state = .opened ∧ s.book.records[o.record].show_ = some o.show_))⟩ }

theorem count_ended (f : Counts → Counts) (reason : OrderEnd) :
    (((s.count o.record o.show_ f).closeOrderOf o).postEnded o reason true (s.takesCount o.record o.show_)).removeOrder
      o.number = { s with
        orders := { s.orders with table := s.orders.table.filter (·.number ≠ o.number) }
        cars := s.cars.map fun c => if c.tag = o.tag then { c with openOrders := c.openOrders - 1 } else c
        book := s.book.withCount o.record o.show_ f
        link := s.link.postReport ⟨s.book.siteTime, o.window.val, .orderEnded o.number o.tag o.screen reason o.calls true
          (decide (s.book.records[o.record].state = .opened ∧ s.book.records[o.record].show_ = some o.show_))⟩ } := by
  rw [count_eq, takesCount_eq, closeOrderOf, updCar_eq, removeOrder_eq, postEnded, post]
  dsimp only [updLink]
  rw [CountBook.withCount_siteTime]

theorem served_ended (f : Counts → Counts) (reason : OrderEnd) :
    ((((s.served o).count o.record o.show_ f).closeOrderOf o).postEnded o reason true
      ((s.served o).takesCount o.record o.show_)).removeOrder o.number = s.endServed o f reason := by
  have htable : (s.orders.table.map o.uncalled).filter (·.number ≠ o.number) = s.orders.table.filter (·.number ≠ o.number) :=
    filter_map_number _ _ (fun p => { p with recallTimer := none, deferredMark := !o.deferredMark && p.deferredMark })
      fun _ => rfl
  rw [count_ended, endServed, ← htable]
  rfl

theorem handOver_cons {w : Fin 2} {n : Nat} {rest : List Nat} (hr : s.orders.ready[w] = n :: rest)
    (hf : s.findOrder n = some o) : s.handOver w = s.pickOrder o := by
  rw [handOver, hr]
  dsimp only
  rw [hf]

theorem pickOrder_eq : s.pickOrder o = s.endServed o Counts.addPicked .picked := by
  rw [pickOrder, served_eq, served_ended]

theorem expireOrder_served : (s.served o).expireOrder o = s.endServed o Counts.addExpired .expired := by
  rw [expireOrder, served_ended]

theorem releaseOrder_served (h : o.state = .ready ∨ o.state = .called) :
    s.releaseOrder o = s.endServed o Counts.addExpired .expired := by
  rw [releaseOrder]
  rcases h with h | h <;> rw [h] <;> exact (congrArg (State.expireOrder · o) (s.served_eq o)).trans (s.expireOrder_served o)

theorem releaseOrder_taken (h : o.state = .taken) : s.releaseOrder o = { s with
    orders := { s.orders with
      table := s.orders.table.map fun p => if p.number = o.number then { p with state := .orphaned } else p }
    cars := s.cars.map fun c => if c.tag = o.tag then { c with openOrders := c.openOrders - 1 } else c
    link := s.link.postReport ⟨s.book.siteTime, o.window.val,
      .orderEnded o.number o.tag o.screen .orphaned o.calls false false⟩ } := by
  rw [releaseOrder, h]
  rw [updOrder_eq, closeOrderOf, updCar_eq]
  rfl

theorem cancelOrder_served (h : o.state = .ready ∨ o.state = .called) :
    s.cancelOrder o = s.endServed o Counts.addCancelled .cancelled := by
  have hd : s.detachOrder o = s.served o := by
    rw [detachOrder]
    rcases h with h | h <;> rw [h] <;> exact s.served_eq o
  rw [cancelOrder, hd]
  rw [if_neg (by rcases h with h | h <;> rw [h] <;> decide), served_ended]

/-- Where an order's call stands, and what its going leaves of the deferred list, the announcement queue and the notices. -/
def callGoes (deferred : List Deferred) (queue : List Entry) (notices : List Notice) : Prop :=
  (o.deferredMark = true ∧ deferred = s.orders.deferred.filter (·.order ≠ o.number) ∧ queue = s.announce.queue
      ∧ notices = s.notices)
    ∨ (o.deferredMark = false ∧ deferred = s.orders.deferred
      ∧ (((∀ e ∈ s.announce.queue, ∀ k, e.kind = .call k → e.order ≠ some o.number)
          ∧ queue = s.announce.queue ∧ notices = s.notices)
        ∨ ∃ before e behind, s.announce.queue = before ++ e :: behind ∧ (∃ k, e.kind = .call k)
          ∧ e.order = some o.number ∧ (∀ y ∈ before, ∀ k, y.kind = .call k → y.order ≠ some o.number)
          ∧ queue = before ++ behind ∧ notices = s.notices ++ [Notice.slotFree]))

theorem not_isCallOf {e : Entry} {n : Nat} (h : ∀ k, e.kind = .call k → e.order ≠ some n) : ¬ e.isCallOf n = true := fun hc =>
  let ⟨⟨k, hk⟩, ho⟩ := (e.isCallOf_iff n).1 hc
  h k hk ho

theorem endServed_of_callGoes {deferred : List Deferred} {queue : List Entry} {notices : List Notice}
    (h : s.callGoes o deferred queue notices) (f : Counts → Counts) (reason : OrderEnd)
    (hs : s.book.records[o.record].state = .opened) (hn : s.book.records[o.record].show_ = some o.show_) :
    s.endServed o f reason = { s with
      orders := { s.orders with
        table := s.orders.table.filter (·.number ≠ o.number)
        ready := vmod s.orders.ready o.window fun l => l.erase o.number
        deferred := deferred }
      cars := s.cars.map fun y => if y.tag = o.tag then { y with openOrders := y.openOrders - 1 } else y
      book := { s.book with records := vmod s.book.records o.record fun c => { c with counts := f c.counts } }
      announce := { s.announce with queue := queue }
      notices := notices
      link := s.link.postReport
        ⟨s.book.siteTime, o.window.val, .orderEnded o.number o.tag o.screen reason o.calls true true⟩ } := by
  have hparts : o.deferredLeft s.orders.deferred = deferred ∧ o.queueLeft s.announce.queue = queue
      ∧ s.notices ++ o.slotFreed s.announce.queue = notices := by
    rw [Order.deferredLeft, Order.queueLeft, Order.slotFreed]
    rcases h with ⟨hm, rfl, rfl, rfl⟩ | ⟨hm, rfl, h⟩
    · rw [hm]
      refine ⟨?_, rfl, List.append_nil _⟩
      exact List.filter_congr fun _ _ => Bool.eq_iff_iff.2 (bne_iff_ne.trans decide_eq_true_iff.symm)
    · rw [hm]
      rcases h with ⟨hnone, rfl, rfl⟩ | ⟨before, e, behind, hq, hk, ho, hbefore, rfl, rfl⟩
      · refine ⟨rfl, List.eraseP_of_forall_not fun e he => not_isCallOf (hnone e he), ?_⟩
        have hany : s.announce.queue.any (·.isCallOf o.number) = false :=
          List.any_eq_false.2 fun e he => not_isCallOf (hnone e he)
        rw [hany]
        exact List.append_nil _
      · have he : e.isCallOf o.number = true := (e.isCallOf_iff _).2 ⟨hk, ho⟩
        rw [hq]
        refine ⟨rfl, ?_, ?_⟩
        · rw [if_neg (by decide), List.eraseP_append_right _ fun y hy => not_isCallOf (hbefore y hy),
            List.eraseP_cons_of_pos (p := fun y : Entry => y.isCallOf o.number) he]
        · rw [List.any_append, List.any_cons, he, Bool.true_or, Bool.or_true]
          rfl
  obtain ⟨rfl, rfl, rfl⟩ := hparts
  rw [endServed, CountBook.withCount_opened hs hn, decide_eq_true ⟨hs, hn⟩]

end State

theorem OrderState.served_iff (x : OrderState) : x.served = true ↔ x = .ready ∨ x = .called := by
  cases x <;> decide

theorem pickupEffect_served (s : State) {x : Half} {o : Order} (hx : x ≠ 0) (hf : s.findOrder x.toNat = some o)
    (h : o.state = .ready ∨ o.state = .called) :
    pickupEffect x s = (s.pickOrder o, .ok (u8 o.window.val ++ u16 o.tag ++ u8 o.calls)) := by
  rw [pickupEffect, if_neg hx, hf]
  dsimp only
  rw [if_pos ((OrderState.served_iff _).2 h)]

/-- Settles O54. -/
theorem orderIsPicked : Obligations.OrderIsPicked := by
  unfold Obligations.OrderIsPicked
  intro s t o deferred queue notices hserved hf hcall hs hn ht
  refine ⟨fun tag x htakes hx hxo => ?_, fun rest ms hp hb hr => ?_⟩
  · rw [State.exec_accepted (r := .pickup x) rfl htakes (pickupEffect_served s hx (hxo ▸ hf) hserved), State.pickOrder_eq,
      s.endServed_of_callGoes o hcall _ _ hs hn, ht]
    rfl
  · have hpress : s.orders.handed[o.window].presses = true := by rw [hb]; rfl
    rw [s.exec_handedExpiry (ms := ms) hp (by rw [hb]), if_pos hpress, hb, (s.updHanded o.window _).handOver_cons o hr hf, State.pickOrder_eq,
      (s.updHanded o.window _).endServed_of_callGoes o hcall _ _ hs hn, ht]
    rfl

end Sys2Proof.Machine
end

section
/-! Ticket-done notices, recalls, and the cancellation of an order (O51, O53, O55). -/

namespace Sys2Proof.Machine

namespace State

variable (s : State) (o : Order)

theorem expireOrder_recalled : ((s.stopRecall o).leaveReady o).expireOrder o = { s with
    orders := { s.orders with
      table := s.orders.table.filter (·.number ≠ o.number)
      ready := vmod s.orders.ready o.window fun l => l.erase o.number }
    cars := s.cars.map fun c => if c.tag = o.tag then { c with openOrders := c.openOrders - 1 } else c
    book := s.book.withCount o.record o.show_ Counts.addExpired
    link := s.link.postReport ⟨s.book.siteTime, o.window.val, .orderEnded o.number o.tag o.screen .expired o.calls true
      (decide (s.book.records[o.record].state = .opened ∧ s.book.records[o.record].show_ = some o.show_))⟩ } := by
  rw [expireOrder, count_ended, stopRecall, updOrder_eq,
    ← filter_map_number s.orders.table o.number (fun p => { p with recallTimer := none }) fun _ => rfl]
  rfl

end State

/-- Settles O53. -/
theorem recallOrExpiry : Obligations.RecallOrExpiry := by
  unfold Obligations.RecallOrExpiry
  intro s number ms o hp hf hst ht
  obtain ⟨-, hnum⟩ := s.findOrder_spec hf
  have hrun : exec (.recallTimerExpiry number) s = .next (if o.calls ≤ s.site.maxRecalls then
      ((s.stopRecall o).placeCall o .recall).2 else ((s.stopRecall o).leaveReady o).expireOrder o) := by
    change Host.Outcome.next _ = _
    rw [State.ifPowered, if_pos hp, hf]
    dsimp only
    rw [hst, ht]
  subst hnum
  refine ⟨fun hle => ?_, fun hlt hs hn => ?_⟩
  · rw [hrun, if_pos hle]
    rfl
  · rw [hrun, if_neg (Nat.not_le.2 hlt), State.expireOrder_recalled, CountBook.withCount_opened hs hn, decide_eq_true ⟨hs, hn⟩]
    rfl

/-! ## Ticket-done notices -/

namespace State

variable (s : State) {n : Nat} {st : Fin 4}

theorem exec_ticketDone (hp : s.powered = true) {o : Order} (hf : s.findOrder n = some o) :
    exec (.ticketDoneNotice n st) s = .next (if st ∈ o.outstanding then (s.takeNotice (.ticketDone n st)).ticketDone o st
      else s.takeNotice (.ticketDone n st)) := by
  change Host.Outcome.next _ = _
  rw [ifPowered, if_pos hp]
  dsimp only
  rw [hf]
  dsimp only
  rw [if_congr List.contains_iff_mem rfl rfl]

variable {o : Order}

theorem ticketDone_more (h : ∃ x ∈ o.outstanding, x ≠ st) :
    s.ticketDone o st = s.updOrder o.number fun p => { p with outstanding := o.outstanding.filter (· ≠ st) } := by
  have hrest : o.outstanding.filter (· != st) = o.outstanding.filter (· ≠ st) :=
    List.filter_congr fun _ _ => Bool.eq_iff_iff.2 (bne_iff_ne.trans decide_eq_true_iff.symm)
  obtain ⟨x, hx, hne⟩ := h
  have hmem : x ∈ o.outstanding.filter (· ≠ st) := List.mem_filter.2 ⟨hx, decide_eq_true hne⟩
  rw [ticketDone, hrest, if_neg fun he => absurd (List.isEmpty_iff.1 he ▸ hmem) (List.not_mem_nil)]

theorem ticketDone_last (h : o.outstanding = [st]) : (o.outstanding.filter (· != st)).isEmpty = true := by
  rw [h, List.filter_cons_of_neg (by simp), List.filter_nil]
  rfl

theorem ticketDone_orphaned (h : o.outstanding = [st]) (hs : o.state = .orphaned) :
    s.ticketDone o st = (s.postEnded o .orphanDone true false).removeOrder o.number := by
  rw [ticketDone, if_pos (ticketDone_last h), hs]

theorem ticketDone_taken (h : o.outstanding = [st]) (hs : o.state = .taken) : s.ticketDone o st = s.makeReady o := by
  rw [ticketDone, if_pos (ticketDone_last h), hs]

theorem makeReady_eq {number : Option Nat} {t : State}
    (h : { s with orders := { s.orders with
      table := s.orders.table.map fun p : Order => if p.number = o.number then
        { p with outstanding := [], state := .ready, readyAt := some s.book.siteTime } else p
      ready := vmod s.orders.ready o.window fun l => l ++ [o.number] } }.placeCall o .orderReady = (number, t)) :
    s.makeReady o = t.post o.window.val
      (.orderReady o.number o.tag o.screen o.taken s.book.siteTime (number.getD 0)) := by
  rw [makeReady, updOrder_eq]
  dsimp only [updOrders]
  rw [h]

end State

/-- Settles O51. -/
theorem ticketDoneMakesReady : Obligations.TicketDoneMakesReady := by
  unfold Obligations.TicketDoneMakesReady
  intro s s1 st number hp hd hs1
  refine ⟨fun hf => ?_, fun o hf => ⟨fun hst => ?_, fun hst hmore => ?_, fun hout horph => ?_, fun n t hout htaken hcall => ?_⟩⟩
  · change Host.Outcome.next _ = _
    rw [State.ifPowered, if_pos hp]
    dsimp only
    rw [hf, hs1]
    rfl
  all_goals rw [s.exec_ticketDone hp hf]; obtain ⟨hmem, hnum⟩ := s.findOrder_spec hf; subst hnum
  · rw [if_neg hst, hs1]
    rfl
  · rw [if_pos hst, State.ticketDone_more _ hmore, State.updOrder_eq, hs1,
      ← map_found hd hmem fun q p => { p with outstanding := q.outstanding.filter (· ≠ st) }]
    rfl
  · rw [if_pos (by rw [hout]; exact List.mem_cons_self ..), State.ticketDone_orphaned _ hout horph, State.removeOrder_eq, hs1]
    rfl
  · subst hs1
    rw [if_pos (by rw [hout]; exact List.mem_cons_self ..), State.ticketDone_taken _ hout htaken,
      State.makeReady_eq (s.takeNotice _) hcall]
    rfl

/-! ## The withdrawal of tickets -/

theorem promote_orders (queue : List Ticket) (clock : Word) : (promote queue clock).map (·.order) = queue.map (·.order) := by
  cases queue <;> rfl

theorem withdrawTicket_orders (queue : List Ticket) (n : Nat) (clock : Word) :
    (withdrawTicket queue n clock).map (·.order) = (queue.map (·.order)).filter (· ≠ n) := by
  have hrest : ∀ ts : List Ticket, (ts.filter (·.order != n)).map (·.order) = (ts.map (·.order)).filter (· ≠ n) := fun ts => by
    rw [List.filter_map]
    exact congrArg _ (List.filter_congr fun _ _ => Bool.eq_iff_iff.2 (bne_iff_ne.trans decide_eq_true_iff.symm))
  cases queue with
  | nil => rfl
  | cons t rest =>
    rw [withdrawTicket, List.map_cons]
    split
    · next h => rw [promote_orders, hrest, List.filter_cons_of_neg (by simpa using h)]
    · next h => rw [List.map_cons, hrest, List.filter_cons_of_pos (by simpa using h)]

/-- The head of a station's queue after a withdrawal (R155): it stays, or the next one starts at the clock. -/
theorem withdrawTicket_head {h y : Ticket} {rest : List Ticket} {n : Nat} {clock : Word}
    (hy : (withdrawTicket (h :: rest) n clock).head? = some y) :
    (h.order ≠ n → y = h) ∧ (h.order = n → y.started = some clock) := by
  rw [withdrawTicket] at hy
  split at hy
  · next hn =>
    refine ⟨fun hne => absurd hn hne, fun _ => ?_⟩
    cases hq : rest.filter (·.order != n) with
    | nil => rw [hq] at hy; cases hy
    | cons t ts => rw [hq] at hy; cases hy; rfl
  · next hn =>
    cases hy
    exact ⟨fun _ => rfl, fun h => absurd h hn⟩

namespace State

variable (s : State) (o : Order)

/-- Each station's queue without an order's ticket. -/
theorem withdrawTickets_eq (n : Nat) : s.withdrawTickets n = { s with kitchen := { s.kitchen with
    stations := s.kitchen.stations.map fun x => { x with queue := withdrawTicket x.queue n s.kitchen.clock } } } := by
  have hfold : ∀ (sts : List (Fin 4)) (s : State), sts.foldl
      (fun s st => s.updStation st fun x => { x with queue := withdrawTicket x.queue n s.kitchen.clock }) s
      = { s with kitchen := { s.kitchen with stations := sts.foldl (fun v st =>
          vmod v st fun x => { x with queue := withdrawTicket x.queue n s.kitchen.clock }) s.kitchen.stations } } := by
    intro sts
    induction sts with
    | nil => exact fun _ => rfl
    | cons st sts ih => exact fun s => ih _
  rw [withdrawTickets, hfold, foldl_vmod_all _ _ (by decide) (by decide)]

theorem cancelOrder_unserved (h : o.state = .taken ∨ o.state = .orphaned) : s.cancelOrder o = { s with
    orders := { s.orders with table := s.orders.table.filter (·.number ≠ o.number) }
    cars := if o.state = .orphaned then s.cars else
      s.cars.map fun y => if y.tag = o.tag then { y with openOrders := y.openOrders - 1 } else y
    book := s.book.withCount o.record o.show_ Counts.addCancelled
    kitchen := { s.kitchen with
      stations := s.kitchen.stations.map fun x => { x with queue := withdrawTicket x.queue o.number s.kitchen.clock } }
    link := s.link.postReport ⟨s.book.siteTime, o.window.val, .orderEnded o.number o.tag o.screen .cancelled o.calls true
      (decide (s.book.records[o.record].state = .opened ∧ s.book.records[o.record].show_ = some o.show_))⟩ } := by
  have hd : s.detachOrder o = s.withdrawTickets o.number := by
    rw [detachOrder]
    rcases h with h | h <;> rw [h]
  rw [cancelOrder, hd, withdrawTickets_eq, removeOrder_eq, takesCount_eq, count_eq]
  split
  · dsimp only [postEnded, post, updLink]
    rw [CountBook.withCount_siteTime]
  · rw [closeOrderOf, updCar_eq]
    dsimp only [postEnded, post, updLink]
    rw [CountBook.withCount_siteTime]

end State

theorem cancelOrderEffect_found (s : State) {x : Half} {o : Order} (hx : x ≠ 0) (hf : s.findOrder x.toNat = some o) :
    cancelOrderEffect x s = (s.cancelOrder o, .ok (u8 o.state.code ++ u8 (s.ticketsWithdrawn o))) := by
  rw [cancelOrderEffect, if_neg hx, hf]

/-- Settles O55. -/
theorem cancelTakenOrder : Obligations.CancelTakenOrder := by
  unfold Obligations.CancelTakenOrder
  refine ⟨fun s tag x o counted htakes hx hf hc hst => ?_,
    fun s t tag x o deferred queue notices htakes hx hf hst hcall hs hn ht => ?_⟩
  · obtain ⟨-, hnum⟩ := s.findOrder_spec hf
    have hst' : o.state = .taken ∨ o.state = .orphaned := hst.imp And.left id
    refine ⟨_, State.exec_accepted (r := .cancelOrder x) rfl htakes (cancelOrderEffect_found s hx hf), ?_, rfl, fun st => ?_⟩
    · have hbook : s.book.withCount o.record o.show_ Counts.addCancelled = if counted then { s.book with
          records := vmod s.book.records o.record fun c => { c with counts := c.counts.addCancelled } } else s.book :=
        if_congr hc.symm rfl rfl
      have hcounted : decide (s.book.records[o.record].state = .opened ∧ s.book.records[o.record].show_ = some o.show_)
          = counted := Bool.eq_iff_iff.2 (decide_eq_true_iff.trans hc.symm)
      have hdata : u8 o.state.code ++ u8 (s.ticketsWithdrawn o)
          = [if o.state = .orphaned then 3 else 0, BitVec.ofNat 8 (s.kitchen.ticketsOf x.toNat)] := by
        rw [State.ticketsWithdrawn, ← hnum]
        rcases hst' with h | h <;> rw [h] <;> rfl
      rw [State.cancelOrder_unserved _ _ hst', hbook, hcounted, hdata, hnum]
      rfl
    · rw [State.cancelOrder_unserved _ _ hst', hnum]
      have hget : (s.kitchen.stations.map fun x' => { x' with queue := withdrawTicket x'.queue x.toNat s.kitchen.clock })[st]
          = { s.kitchen.stations[st] with queue := withdrawTicket s.kitchen.stations[st].queue x.toNat s.kitchen.clock } :=
        Vector.getElem_map ..
      refine ⟨hget, (congrArg (fun x : Station => x.queue.map (·.order)) hget).trans (withdrawTicket_orders ..),
        fun h rest y hq hy => withdrawTicket_head (rest := rest) ?_⟩
      rw [← hq]
      exact (congrArg (fun x : Station => x.queue.head?) hget).symm.trans hy
  · obtain ⟨-, hnum⟩ := s.findOrder_spec hf
    rw [State.exec_accepted (r := .cancelOrder x) rfl htakes (cancelOrderEffect_found s hx hf), State.cancelOrder_served _ _ hst,
      s.endServed_of_callGoes o hcall _ _ hs hn, ht]
    have hw : s.ticketsWithdrawn o = 0 := by
      rw [State.ticketsWithdrawn]
      rcases hst with h | h <;> rw [h]
    rw [hw]
    rfl

end Sys2Proof.Machine
end

section
/-! Calls placed, deferred and played (O52). -/

namespace Sys2Proof.Machine

namespace State

variable (s : State) (o : Order) (k : CallKind)

/-- A call that finds room, before the grant (R60, R167). -/
def callQueued : State := s.queued (.call k) 1 [o.screen] (s.site.clipOf k) (some o.tag) (some o.number)

theorem enqueueCall_room (h : s.announce.queue.length < 32) : s.enqueueCall o k =
    (some (pickNumber s.announce.liveNumbers s.announce.liveNumbers.length s.announce.nextEntry),
      if s.announce.state = .idle then (s.callQueued o k).grant else s.callQueued o k) := s.enqueue_room _ _ _ _ _ _ h

theorem enqueueCall_full (h : 32 ≤ s.announce.queue.length) : s.enqueueCall o k = (none, s) := s.enqueue_full _ _ _ _ _ _ h

theorem placeCall_room (h : s.announce.queue.length < 32) : s.placeCall o k =
    (some (pickNumber s.announce.liveNumbers s.announce.liveNumbers.length s.announce.nextEntry),
      (if s.announce.state = .idle then (s.callQueued o k).grant else s.callQueued o k).updOrder o.number fun y =>
        { y with callEntry := some (pickNumber s.announce.liveNumbers s.announce.liveNumbers.length s.announce.nextEntry) }) := by
  rw [placeCall, enqueueCall_room _ _ _ h]

theorem placeCall_full (h : 32 ≤ s.announce.queue.length) : s.placeCall o k = (none, { s with orders := { s.orders with
    table := s.orders.table.map fun y => if y.number = o.number then { y with deferredMark := true } else y
    deferred := s.orders.deferred ++ [⟨o.number, k⟩] } }) := by
  rw [placeCall, enqueueCall_full _ _ _ h]
  dsimp only
  rw [updOrder_eq]
  rfl

variable {s o k}

theorem placeDeferred_full (h : s.orders.deferred = [] ∨ 32 ≤ s.announce.queue.length) : s.placeDeferred = s := by
  rw [placeDeferred]
  split
  · rfl
  · next d rest hd =>
    split
    · rfl
    · next o hf => rw [enqueueCall_full s o d.kind (h.resolve_left fun hnil => absurd (hd.symm.trans hnil) nofun)]

theorem placeDeferred_room (h : s.announce.queue.length < 32) {rest : List Deferred}
    (hd : s.orders.deferred = ⟨o.number, k⟩ :: rest) (hf : s.findOrder o.number = some o) : s.placeDeferred =
    { if s.announce.state = .idle then (s.callQueued o k).grant else s.callQueued o k with
      orders := { s.orders with
        deferred := rest
        table := s.orders.table.map fun y => if y.number = o.number then { y with
          deferredMark := false
          callEntry := some (pickNumber s.announce.liveNumbers s.announce.liveNumbers.length s.announce.nextEntry) } else y } } := by
  have horders : (if s.announce.state = .idle then (s.callQueued o k).grant else s.callQueued o k).orders = s.orders := by
    split
    · exact (grant_frame _).orders
    · rfl
  rw [placeDeferred, hd]
  dsimp only
  rw [hf]
  dsimp only
  rw [enqueueCall_room s o k h]
  dsimp only
  rw [updOrder_eq]
  dsimp only [updOrders]
  rw [horders]

theorem exec_slotFree (hp : s.powered = true) : exec .slotFreeNotice s = .next (s.takeNotice .slotFree).placeDeferred := by
  change Host.Outcome.next _ = _
  rw [ifPowered, if_pos hp]

theorem exec_callPlayed {number entry : Nat} {kind : CallKind} {outcome : PlayOutcome} (hp : s.powered = true)
    (hf : s.findOrder number = some o) : exec (.callPlayedNotice number entry kind outcome) s = .next (
      if (o.state = .ready ∨ o.state = .called) ∧ o.callEntry = some entry then
        (s.takeNotice (.callPlayed number entry kind outcome)).updOrder number fun o =>
          { o with state := .called, calls := o.calls + 1, recallTimer := .start (s.site.recallInterval * Config.second) }
      else s.takeNotice (.callPlayed number entry kind outcome)) := by
  change Host.Outcome.next _ = _
  rw [ifPowered, if_pos hp]
  dsimp only
  rw [hf]
  dsimp only
  rw [if_congr (Bool.and_eq_true_iff.trans (and_congr (OrderState.served_iff _) beq_iff_eq)) rfl rfl]

end State

/-- Settles O52. -/
theorem callsArePlacedAndPlayed : Obligations.CallsArePlacedAndPlayed := by
  unfold Obligations.CallsArePlacedAndPlayed
  refine ⟨fun s o k n queued hroom hn hq => ⟨?_, fun rest t hp hd hf ht => ?_⟩, fun s o k hfull => s.placeCall_full o k hfull,
    fun s hp h => ?_, fun s number entry kind outcome hp hnone => ?_,
    fun s number entry kind outcome o hp hf => ⟨fun hst he => ?_, fun h => ?_⟩⟩
  · have hqueued : queued = s.callQueued o k := by rw [hq, hn]; cases k <;> rfl
    rw [s.placeCall_room o k hroom, ← hn, hqueued]
  · have hqueued : queued = s.callQueued o k := by rw [hq, hn]; cases k <;> rfl
    rw [State.exec_slotFree hp, State.placeDeferred_room (s := s.takeNotice .slotFree) (o := o) (k := k) hroom hd hf, ht, hqueued, hn]
    rfl
  · rw [State.exec_slotFree hp, State.placeDeferred_full (s := s.takeNotice .slotFree) h]
    rfl
  · change Host.Outcome.next _ = _
    rw [State.ifPowered, if_pos hp]
    dsimp only
    rw [s.findOrder_none hnone]
    rfl
  · rw [State.exec_callPlayed hp hf, if_pos ⟨hst, he⟩, State.updOrder_eq]
    rfl
  · rw [State.exec_callPlayed hp hf, if_neg]
    · rfl
    · rintro ⟨hst, he⟩
      rcases h with h | h | h
      · rcases hst with hst | hst <;> cases h.symm.trans hst
      · rcases hst with hst | hst <;> cases h.symm.trans hst
      · exact h he

end Sys2Proof.Machine
end

section
/-! ORDER: its lines, the checks of R163 in order, and an accepted order (O50). -/

namespace Sys2Proof.Machine

/-- A request that its owning rule refuses with data changes nothing but its reply (R187). -/
theorem State.exec_answered {s : State} {c : Instr} {tag : Byte} {r : Request} {a : Answer} (hc : c.request = some (tag, r))
    (ht : s.takes tag) (h : requestEffect r s = (s, a)) (hf : r.fits = true := by rfl) (hr : r ≠ .siteReset := by nofun) :
    exec c s = .next (s.refused tag a.result a.data) := by
  rw [exec_request hc, State.request_takes ht hf, State.take, h, decide_eq_false hr]
  rfl

/-! ## Lines and stations of an order -/

theorem line_iff (w : LineWire) (l : OrderLine) : line? w = some l ↔ w.item.toNat = l.item.val
    ∧ l.quantity = w.quantity.toNat ∧ 1 ≤ w.quantity.toNat ∧ w.quantity.toNat ≤ 20 := by
  obtain ⟨item, quantity⟩ := l
  rw [line?]
  cases hi : unit? 128 w.item with
  | none => exact ⟨nofun, fun h => absurd (hi.symm.trans (unit_iff.2 h.1)) nofun⟩
  | some i =>
    dsimp only
    rw [← unit_iff, hi, Option.some.injEq]
    split
    · next hbad => exact ⟨nofun, fun ⟨_, _, h1, h20⟩ => absurd hbad (by simp only [Config.lineQuantity]; omega)⟩
    · next hok =>
      rw [Option.some.injEq, OrderLine.mk.injEq]
      refine and_congr Iff.rfl ⟨fun h => ⟨h.symm, ?_⟩, fun h => h.1.symm⟩
      simp only [Config.lineQuantity] at hok
      omega

theorem mem_stationsOf {menu : Vector Item 128} {lines : List OrderLine} {st : Fin 4} :
    st ∈ stationsOf menu lines ↔ ∃ l ∈ lines, menu[l.item].station = st := by
  have hall : st ∈ allStations := by revert st; decide
  rw [stationsOf, List.mem_filter, and_iff_right hall, List.any_eq_true]
  exact exists_congr fun l => and_congr Iff.rfl beq_iff_eq

theorem stationsOf_sorted (menu : Vector Item 128) (lines : List OrderLine) : (stationsOf menu lines).Pairwise (· < ·) :=
  List.Pairwise.filter _ (by decide)

/-! ## The first line or station that fails a check -/

theorem firstLine_some {p : OrderLine → Bool} {lines : List OrderLine} {k : Nat} {l : OrderLine} (hl : lines[k]? = some l)
    (hp : p l = true) (hbefore : ∀ m ∈ lines.take k, p m = false) : firstLine p lines = some k := by
  obtain ⟨hk, rfl⟩ := List.getElem?_eq_some_iff.1 hl
  refine List.findIdx?_eq_some_iff_getElem.2 ⟨hk, hp, fun j hj => ?_⟩
  rw [hbefore _ (List.mem_take_iff_getElem.2 ⟨j, by omega, rfl⟩)]
  decide

theorem firstLine_none {p : OrderLine → Bool} {lines : List OrderLine} (h : ∀ l ∈ lines, p l = false) :
    firstLine p lines = none := List.findIdx?_eq_none_iff.2 h

/-- The lowest station of a rising list that fails a test. -/
theorem find_lowest {xs : List (Fin 4)} {p : Fin 4 → Bool} {st : Fin 4} (hs : xs.Pairwise (· < ·)) (hm : st ∈ xs)
    (hp : p st = true) (hlow : ∀ q ∈ xs, q < st → p q = false) : xs.find? p = some st := by
  induction xs with
  | nil => cases hm
  | cons x xs ih =>
    obtain ⟨hx, hxs⟩ := List.pairwise_cons.1 hs
    rcases List.mem_cons.1 hm with rfl | hm
    · rw [List.find?_cons_of_pos hp]
    · rw [List.find?_cons_of_neg (by rw [hlow x (List.mem_cons_self ..) (hx st hm)]; decide)]
      exact ih hxs hm fun q hq => hlow q (List.mem_cons_of_mem _ hq)

/-! ## The checks of R163 -/

namespace State

variable (s : State) (c : Car) (lines : List OrderLine)

/-- The checks of R163 in order, each with its answer. -/
theorem orderRefusal_eq : s.orderRefusal c lines =
    if c.openOrders = 4 then some (.refused .carLimit)
    else if (s.policies c.screen).order = .closed then some (.refused .orderingClosed)
    else ((firstLine (fun l => !s.kitchen.menu[l.item].available) lines).map fun n => ⟨.itemUnavailable, u8 n⟩).or
      (((firstLine (fun l => !s.kitchen.stations[s.kitchen.menu[l.item].station].opened) lines).map fun n =>
          ⟨.stationClosed, u8 n⟩).or
        (((firstLine (lineSoldOut s.kitchen.menu lines) lines).map fun n => ⟨.soldOut, u8 n⟩).or
          (if s.orders.table.length ≥ 128 then some (.refused .orderTableFull) else
            (((stationsOf s.kitchen.menu lines).find? fun st => s.kitchen.stations[st].queue.length ≥ 24).map fun st =>
                ⟨.stationFull, u8 st.val⟩).or
              (if (s.policies c.screen).order = .lastCall
                  ∧ s.kitchen.estimate lines > s.screens[c.screen].remainingTime then
                some ⟨.tooLate, u16 (s.kitchen.estimate lines) ++ u24 s.screens[c.screen].remainingTime⟩ else none)))) := by
  rw [orderRefusal]
  refine ite_congr rfl (fun _ => rfl) fun _ => ite_congr rfl (fun _ => rfl) fun _ => ?_
  cases firstLine (fun l => !s.kitchen.menu[l.item].available) lines with
  | some n => rfl
  | none =>
    cases firstLine (fun l => !s.kitchen.stations[s.kitchen.menu[l.item].station].opened) lines with
    | some n => rfl
    | none =>
      cases firstLine (lineSoldOut s.kitchen.menu lines) lines with
      | some n => rfl
      | none =>
        refine ite_congr rfl (fun _ => rfl) fun _ => ?_
        cases (stationsOf s.kitchen.menu lines).find? fun st => s.kitchen.stations[st].queue.length ≥ 24 <;> rfl

theorem lineSoldOut_iff (menu : Vector Item 128) (l : OrderLine) : lineSoldOut menu lines l = false
    ↔ ∀ q, menu[l.item].stock = some q → ((lines.filter (·.item == l.item)).map (·.quantity)).sum ≤ q := by
  rw [lineSoldOut]
  cases menu[l.item].stock with
  | none => exact ⟨fun _ => nofun, fun _ => rfl⟩
  | some n =>
    rw [decide_eq_false_iff_not, Nat.not_lt]
    exact ⟨fun h q hq => Option.some.inj hq ▸ h, fun h => h n rfl⟩

end State

section Checked

variable {s : State} {x : Half} {wires : List LineWire} {lines : List OrderLine} {c : Car}

theorem orderEffect_checks (hx : x ≠ 0) (h1 : 1 ≤ wires.length) (h12 : wires.length ≤ 12) (hr : readAll line? wires = some lines)
    (hf : s.findCar x.toNat = some c) (hc : c.state = .onLot) : orderEffect x wires s = (s.orderRefusal c lines).elim
      (s.takeOrder c lines, .ok (u16 s.orders.nextOrder ++ u16 (s.kitchen.estimate lines)
        ++ u8 (s.site.window.get c.screen).val ++ u8 (unitsOf lines))) (Prod.mk s) := by
  rw [orderEffect, if_neg fun h => h.elim hx (by simp only [Config.orderLines]; omega), hr]
  dsimp only
  rw [hf]
  dsimp only
  rw [if_neg (by rw [hc]; decide)]
  cases s.orderRefusal c lines <;> rfl

theorem orderEffect_bad (h : x = 0 ∨ wires = [] ∨ 12 < wires.length ∨ ∃ w ∈ wires, line? w = none) :
    orderEffect x wires s = (s, .refused .outOfRange) := by
  rw [orderEffect]
  split
  · rfl
  · next hok =>
    have hnone : readAll line? wires = none := by
      rcases h with h | h | h | h
      · exact absurd (.inl h) hok
      · exact absurd (.inr (.inl (by rw [h]; rfl))) hok
      · exact absurd (.inr (.inr h)) hok
      · exact readAll_none h
    rw [hnone]

theorem orderEffect_unknown (hx : x ≠ 0) (h1 : 1 ≤ wires.length) (h12 : wires.length ≤ 12)
    (hr : readAll line? wires = some lines) (hf : s.findCar x.toNat = none) :
    orderEffect x wires s = (s, .refused .unknownCar) := by
  rw [orderEffect, if_neg fun h => h.elim hx (by simp only [Config.orderLines]; omega), hr]
  dsimp only
  rw [hf]

theorem orderEffect_pending (hx : x ≠ 0) (h1 : 1 ≤ wires.length) (h12 : wires.length ≤ 12)
    (hr : readAll line? wires = some lines) (hf : s.findCar x.toNat = some c) (hc : c.state = .pending) :
    orderEffect x wires s = (s, .refused .notOnLot) := by
  rw [orderEffect, if_neg fun h => h.elim hx (by simp only [Config.orderLines]; omega), hr]
  dsimp only
  rw [hf]
  dsimp only
  rw [if_pos hc]

end Checked

end Sys2Proof.Machine
end

section
/-! ORDER refused and accepted (O50). -/

namespace Sys2Proof.Machine

theorem Screen.remainingTime_eq {c : Screen} {p : Position} {prog : List Segment} {g : Segment} (hp : c.position = some p)
    (hprog : c.program = some prog) (hg : prog[p.segment]? = some g) : c.remainingTime = (g.length - p.frame) / 24 := by
  rw [remainingTime, remaining, Screen.current_eq hp hprog hg, hp]
  rfl

/-- An order that passes every check of R163 is not refused. -/
theorem State.orderRefusal_none {s : State} {c : Car} {lines : List OrderLine} (h4 : c.openOrders ≠ 4)
    (hcl : (s.policies c.screen).order ≠ .closed)
    (hlines : ∀ l ∈ lines, s.kitchen.menu[l.item].available = true
      ∧ s.kitchen.stations[s.kitchen.menu[l.item].station].opened = true
      ∧ (∀ q, s.kitchen.menu[l.item].stock = some q → ((lines.filter (·.item == l.item)).map (·.quantity)).sum ≤ q)
      ∧ s.kitchen.stations[s.kitchen.menu[l.item].station].queue.length < 24)
    (hroom : s.orders.table.length < 128)
    (htime : (s.policies c.screen).order = .lastCall → s.kitchen.estimate lines ≤ s.screens[c.screen].remainingTime) :
    s.orderRefusal c lines = none := by
  rw [orderRefusal_eq, if_neg h4, if_neg hcl, firstLine_none fun l hl => congrArg not (hlines l hl).1,
    firstLine_none fun l hl => congrArg not (hlines l hl).2.1,
    firstLine_none fun l hl => (lineSoldOut_iff _ _ l).2 (hlines l hl).2.2.1, if_neg (Nat.not_le.2 hroom),
    List.find?_eq_none.2 fun st hst => ?_, if_neg fun h => absurd (htime h.1) (Nat.not_le.2 h.2)]
  · rfl
  · obtain ⟨l, hl, rfl⟩ := mem_stationsOf.1 hst
    rw [decide_eq_true_iff]
    exact Nat.not_le.2 (hlines l hl).2.2.2

/-! ## What an accepted order leaves (R143, R149, R165) -/

/-- The stock report of one item, in the reports' place on the link. -/
theorem postEach_taken (time : Word) (k : Link) (lines : List OrderLine) (n : Nat) (i : Fin 128) (it : Item) :
    (k.postEach time (takenReports lines n i it)) = it.stock.elim k fun q =>
      if q - unitsOfItem lines i = 0 then
        k.postReport ⟨time, it.station.val, .stock i .soldOut (q - unitsOfItem lines i) it.low n⟩
      else if it.low < q ∧ q - unitsOfItem lines i ≤ it.low then
        k.postReport ⟨time, it.station.val, .stock i .low (q - unitsOfItem lines i) it.low n⟩
      else k := by
  rw [takenReports]
  cases it.stock with
  | none => rfl
  | some q =>
    dsimp only [Option.elim_some]
    rw [stockReport]
    split
    · rfl
    · split <;> rfl

theorem appendTicket_eq (queue : List Ticket) (t : Ticket) (clock : Word) (ht : t.started = none) : appendTicket queue t clock
    = queue ++ [{ t with started := if queue = [] then some clock else none }] := by
  cases queue with
  | nil => rfl
  | cons q rest =>
    rw [if_neg (by simp), ← ht]
    rfl

/-- Items that stand at the same stations with the same prep give an order the same lines and prep at each station. -/
theorem linesAt_congr {menu menu' : Vector Item 128} (h : ∀ i : Fin 128, menu'[i].station = menu[i].station)
    (lines : List OrderLine) (st : Fin 4) : linesAt menu' lines st = linesAt menu lines st := by
  simp only [linesAt, h]

theorem ticketPrep_congr {menu menu' : Vector Item 128} (h : ∀ i : Fin 128, menu'[i].station = menu[i].station)
    (hp : ∀ i : Fin 128, menu'[i].prep = menu[i].prep) (lines : List OrderLine) (st : Fin 4) (perUnit : Nat) :
    ticketPrep menu' lines st perUnit = ticketPrep menu lines st perUnit := by
  simp only [ticketPrep, linesAt_congr h, hp]

namespace State

variable (s : State) (lines : List OrderLine) (n : Nat)

/-- The kitchen with an order's stock taken and its tickets placed. -/
def kitchenAfter : Kitchen := ((s.takeStock lines n).appendTickets lines n).kitchen

theorem placed_eq : (s.takeStock lines n).appendTickets lines n
    = { s with kitchen := s.kitchenAfter lines n, link := (s.takeStock lines n).link } := by
  rw [kitchenAfter, appendTickets, foldl_appendTicketAt, takeStock_eq]

theorem takeStock_link : (s.takeStock lines n).link = (List.finRange 128).foldl (fun (k : Link) i =>
    if ∀ l ∈ lines, l.item ≠ i then k
    else k.postEach s.book.siteTime (takenReports lines n i s.kitchen.menu[i])) s.link := by
  rw [takeStock_eq]
  dsimp only
  rw [List.foldl_filter]
  refine List.foldl_ext _ _ _ fun k i _ => ?_
  have hany : lines.any (·.item == i) = true ↔ ¬ ∀ l ∈ lines, l.item ≠ i := by simp
  rw [if_congr hany rfl rfl, ite_not]

theorem kitchenAfter_clocks : (s.kitchenAfter lines n).clock = s.kitchen.clock
    ∧ (s.kitchenAfter lines n).clockMs = s.kitchen.clockMs := by
  rw [kitchenAfter, appendTickets, foldl_appendTicketAt, takeStock_eq]
  exact ⟨rfl, rfl⟩

theorem kitchenAfter_menu (i : Fin 128) : (s.kitchenAfter lines n).menu[i] = s.kitchen.menu[i].taken lines i := by
  rw [← takeStock_menu s lines n i, kitchenAfter, appendTickets, foldl_appendTicketAt]

theorem kitchenAfter_station (st : Fin 4) : (s.kitchenAfter lines n).stations[st] =
    if st ∈ stationsOf s.kitchen.menu lines then { s.kitchen.stations[st] with
      queue := s.kitchen.stations[st].queue ++ [{
        order := n, station := st, units := unitsOf (linesAt s.kitchen.menu lines st)
        prep := ticketPrep s.kitchen.menu lines st s.kitchen.stations[st].perUnit
        started := if s.kitchen.stations[st].queue = [] then some s.kitchen.clock else none }] }
    else s.kitchen.stations[st] := by
  have hstation : ∀ i : Fin 128, (s.takeStock lines n).kitchen.menu[i].station = s.kitchen.menu[i].station := fun i => by
    rw [takeStock_menu]; rfl
  have hprep : ∀ i : Fin 128, (s.takeStock lines n).kitchen.menu[i].prep = s.kitchen.menu[i].prep := fun i => by
    rw [takeStock_menu]; rfl
  have hclock : (s.takeStock lines n).kitchen.clock = s.kitchen.clock := by rw [takeStock_eq]
  rw [kitchenAfter, appendTickets_station, takeStock_stationsOf, takeStock_stations, hclock, Station.withTicket,
    appendTicket_eq _ _ _ rfl, newTicket, linesAt_congr hstation, ticketPrep_congr hstation hprep]

theorem takeOrder_eq {c : Car} {show_ : Nat} (hs : s.book.records[c.record].state = .opened)
    (hn : s.book.records[c.record].show_ = some show_) : s.takeOrder c lines = { s with
      orders := { s.orders with
        table := insertOrder (s.newOrder c lines s.orders.nextOrder) s.orders.table
        counter := nextNumber s.orders.nextOrder }
      cars := s.cars.map fun y => if y.tag = c.tag then { y with openOrders := y.openOrders + 1 } else y
      book := { s.book with records := vmod s.book.records c.record fun y =>
        { y with counts := y.counts.addOrder (unitsOf lines) } }
      kitchen := s.kitchenAfter lines s.orders.nextOrder
      link := (s.takeStock lines s.orders.nextOrder).link } := by
  rw [takeOrder]
  dsimp only
  rw [placed_eq, updCar_eq, count_opened (by exact hs) (by rw [newOrder, showOf_eq hn]; exact hn)]
  rfl

end State

/-- Settles O50. -/
theorem orderIsTaken : Obligations.OrderIsTaken := by
  unfold Obligations.OrderIsTaken
  refine ⟨fun s tag x wires lines c ht hx h1 h12 hr hf hc => ?_,
    fun s tag x wires lines c n show_ o link ht hx h1 h12 hr hf hc h4 hcl hlines hroom htime hn hs hshow ho hlink => ?_,
    fun s tag x wires ht hlen => ⟨fun hbad => ?_, fun hx h1 h12 hread => ?_⟩, readAll_iff line?, line_iff,
    fun menu lines st => ⟨mem_stationsOf, stationsOf_sorted menu lines⟩⟩
  · have hrun : ∀ a, s.orderRefusal c lines = some a → exec (.order tag x wires) s = .next (s.refused tag a.result a.data) :=
      fun a ha => State.exec_answered (r := .order x wires) rfl ht
        ((orderEffect_checks hx h1 h12 hr hf hc).trans (by rw [ha]; rfl)) (decide_eq_true (by omega))
    rw [State.orderRefusal_eq] at hrun
    refine ⟨fun h4 => hrun _ (if_pos h4), fun h4 hcl => hrun _ ((if_neg h4).trans (if_pos hcl)), fun h4 hcl item hitem => ?_⟩
    obtain rfl : item = fun l => s.kitchen.menu[l.item] := funext hitem
    rw [if_neg h4, if_neg hcl] at hrun
    refine ⟨fun k l hl hav hbefore => hrun ⟨.itemUnavailable, u8 k⟩ ?_, fun havail opened hopened => ?_⟩
    · rw [firstLine_some hl (congrArg not hav) fun m hm => congrArg not (hbefore m hm)]
      rfl
    rw [firstLine_none fun l hl => congrArg not (havail l hl), Option.map_none, Option.none_or] at hrun
    obtain rfl : opened = fun l => s.kitchen.stations[s.kitchen.menu[l.item].station].opened := funext hopened
    refine ⟨fun k l hl hop hbefore => hrun ⟨.stationClosed, u8 k⟩ ?_, fun hopen covered hcov => ?_⟩
    · rw [firstLine_some hl (congrArg not hop) fun m hm => congrArg not (hbefore m hm)]
      rfl
    rw [firstLine_none fun l hl => congrArg not (hopen l hl), Option.map_none, Option.none_or] at hrun
    have hsold : ∀ l, lineSoldOut s.kitchen.menu lines l = false ↔ covered l := fun l =>
      (State.lineSoldOut_iff _ _ l).trans (hcov l).symm
    refine ⟨fun k l hl hnot hbefore => hrun ⟨.soldOut, u8 k⟩ ?_, fun hall => ⟨fun hfull => hrun (.refused .orderTableFull) ?_, fun hroom => ?_⟩⟩
    · rw [firstLine_some hl (Bool.not_eq_false _ ▸ fun hs => hnot ((hsold l).1 hs)) fun m hm => (hsold m).2 (hbefore m hm)]
      rfl
    · rw [firstLine_none fun l hl => (hsold l).2 (hall l hl), Option.map_none, Option.none_or, if_pos hfull]
    rw [firstLine_none fun l hl => (hsold l).2 (hall l hl), Option.map_none, Option.none_or, if_neg (Nat.not_le.2 hroom)] at hrun
    refine ⟨fun st hst hlen hlow => hrun ⟨.stationFull, u8 st.val⟩ ?_, fun hplaces p prog g left hpol hp hprog hg hleft hlate =>
      hrun ⟨.tooLate, u16 (s.kitchen.estimate lines) ++ u24 left⟩ ?_⟩
    · rw [find_lowest (stationsOf_sorted _ _) (mem_stationsOf.2 hst) (decide_eq_true hlen) fun q hq hlt =>
        decide_eq_false (Nat.not_le.2 (hlow q hlt (mem_stationsOf.1 hq)))]
      rfl
    · rw [List.find?_eq_none.2 fun st hst => ?_, Option.map_none, Option.none_or, Screen.remainingTime_eq hp hprog hg, ← hleft,
        if_pos ⟨hpol, hlate⟩]
      obtain ⟨l, hl, rfl⟩ := mem_stationsOf.1 hst
      rw [decide_eq_true_iff]
      exact Nat.not_le.2 (hplaces l hl)

  · have hnone : s.orderRefusal c lines = none := State.orderRefusal_none h4 hcl hlines hroom fun hlast => by
      obtain ⟨p, prog, g, hp, hprog, hg, hle⟩ := htime hlast
      rw [Screen.remainingTime_eq hp hprog hg]
      exact hle
    have heff := orderEffect_checks hx h1 h12 hr hf hc
    rw [hnone, Option.elim_none, s.takeOrder_eq lines hs hshow, ← hn] at heff
    have ho' : s.newOrder c lines n = o := by rw [ho, State.newOrder, State.showOf_eq hshow]; rfl
    have hlink' : (s.takeStock lines n).link = link := by
      rw [State.takeStock_link, hlink]
      refine List.foldl_ext _ _ _ fun k i _ => ?_
      rw [postEach_taken]
      cases s.kitchen.menu[i].stock with
      | none => exact ite_self k
      | some q => rfl
    subst ho'
    rw [hlink'] at heff
    exact ⟨_, State.exec_accepted (r := .order x wires) rfl ht heff (decide_eq_true (by omega)), rfl,
      (s.kitchenAfter_clocks lines n).1, (s.kitchenAfter_clocks lines n).2, s.kitchenAfter_menu lines n,
      s.kitchenAfter_station lines n⟩
  · exact State.exec_refused (r := .order x wires) rfl ht (orderEffect_bad hbad) (decide_eq_true (by omega))
  · obtain ⟨lines, hr⟩ := readAll_some hread
    refine ⟨fun hcars => ?_, fun a hf hp => ?_⟩
    · have hf : s.findCar x.toNat = none := List.find?_eq_none.2 fun a ha => by rw [beq_iff_eq]; exact hcars a ha
      exact State.exec_refused (r := .order x wires) rfl ht (orderEffect_unknown hx h1 h12 hr hf) (decide_eq_true (by omega))
    · exact State.exec_refused (r := .order x wires) rfl ht (orderEffect_pending hx h1 h12 hr hf hp)
        (decide_eq_true (by omega))

end Sys2Proof.Machine
end

section
/-! The release of orders: what it leaves of each part of the state (R116, R176). -/

namespace Sys2Proof.Machine

/-! ## One order's release, part by part -/

namespace Order

variable (o : Order)

/-- The order table after the order's release: a TAKEN order is ORPHANED in place, a READY or CALLED one leaves. -/
def tableAfter (table : List Order) : List Order :=
  if o.state = .taken then table.map fun p => if p.number = o.number then { p with state := .orphaned } else p
  else table.filter (·.number ≠ o.number)

/-- The ready lists after the order's release. -/
def readyAfter (ready : Vector (List Nat) 2) : Vector (List Nat) 2 :=
  if o.state = .taken then ready else vmod ready o.window fun l => l.erase o.number

/-- The deferred list after the order's release. -/
def deferredAfter (deferred : List Deferred) : List Deferred := if o.state = .taken then deferred else o.deferredLeft deferred

/-- The announcement queue after the order's release. -/
def queueAfter (queue : List Entry) : List Entry := if o.state = .taken then queue else o.queueLeft queue

/-- The car table after the order's release. -/
def carsAfter (cars : List Car) : List Car :=
  cars.map fun c => if c.tag = o.tag then { c with openOrders := c.openOrders - 1 } else c

/-- The count book after the order's release. -/
def bookAfter (book : CountBook) : CountBook :=
  if o.state = .taken then book else book.withCount o.record o.show_ Counts.addExpired

/-- The report of the order's release. -/
def releaseReport (book : CountBook) : ReportRecord :=
  if o.state = .taken then .orderEnded o.number o.tag o.screen .orphaned o.calls false false
  else .orderEnded o.number o.tag o.screen .expired o.calls true
    (decide (book.records[o.record].state = .opened ∧ book.records[o.record].show_ = some o.show_))

theorem served_of_live {o : Order} (h : o.state ≠ .orphaned) : (o.state = .ready ∨ o.state = .called) ↔ o.state ≠ .taken := by
  cases hs : o.state <;> simp_all

end Order

theorem Order.queueLeft_length (o : Order) (queue : List Entry) :
    o.slotFreed queue = List.replicate (queue.length - (o.queueLeft queue).length) .slotFree
      ∧ (o.queueLeft queue).length ≤ queue.length := by
  rw [slotFreed, queueLeft]
  cases o.deferredMark with
  | true => exact ⟨by rw [if_pos rfl, Nat.sub_self]; rfl, le_rfl⟩
  | false =>
    rw [Bool.not_false, Bool.true_and, if_neg (c := false = true) (by decide)]
    refine ⟨?_, List.length_eraseP_le⟩
    split
    · next h =>
      obtain ⟨e, he, hc⟩ := List.any_eq_true.1 h
      have hlen := List.length_eraseP_of_mem (p := fun y : Entry => y.isCallOf o.number) he hc
      have hpos := List.length_pos_of_mem he
      rw [hlen, show queue.length - (queue.length - 1) = 1 by omega]
      rfl
    · next h =>
      rw [List.eraseP_of_forall_not fun e he hc => h (List.any_eq_true.2 ⟨e, he, hc⟩), Nat.sub_self]
      rfl

namespace State

variable (s : State)

theorem releaseOrder_live {o : Order} (h : o.state ≠ .orphaned) : s.releaseOrder o = { s with
    orders := { s.orders with
      table := o.tableAfter s.orders.table
      ready := o.readyAfter s.orders.ready
      deferred := o.deferredAfter s.orders.deferred }
    cars := o.carsAfter s.cars
    book := o.bookAfter s.book
    announce := { s.announce with queue := o.queueAfter s.announce.queue }
    notices := s.notices ++
      List.replicate (s.announce.queue.length - (o.queueAfter s.announce.queue).length) .slotFree
    link := s.link.postReport ⟨s.book.siteTime, o.window.val, o.releaseReport s.book⟩ } := by
  by_cases ht : o.state = .taken
  · rw [s.releaseOrder_taken o ht, Order.tableAfter, Order.readyAfter, Order.deferredAfter, Order.bookAfter, Order.queueAfter,
      Order.releaseReport, if_pos ht, if_pos ht, if_pos ht, if_pos ht, if_pos ht, if_pos ht, Nat.sub_self, List.replicate_zero,
      List.append_nil]
    rfl
  · rw [s.releaseOrder_served o ((Order.served_of_live h).2 ht), Order.tableAfter, Order.readyAfter, Order.deferredAfter,
      Order.bookAfter, Order.queueAfter, Order.releaseReport, if_neg ht, if_neg ht, if_neg ht, if_neg ht, if_neg ht, if_neg ht,
      ← (o.queueLeft_length _).1]
    rfl

end State

/-! ## Several orders released one after another -/

theorem CountBook.withCount_get (b : CountBook) (q : Fin 16) (n : Nat) (f : Counts → Counts) (r : Fin 16) :
    (b.withCount q n f).records[r] = if q = r ∧ b.records[r].state = .opened ∧ b.records[r].show_ = some n then
      { b.records[r] with counts := f b.records[r].counts } else b.records[r] := by
  rw [withCount]
  split
  · next hc =>
    by_cases hr : q = r
    · subst hr
      exact (vmod_at ..).trans (if_pos ⟨rfl, hc⟩).symm
    · exact (vmod_at_ne _ _ (Ne.symm hr)).trans (if_neg fun h => hr h.1).symm
  · next hc => exact (if_neg fun ⟨hr, h⟩ => hc (hr ▸ h)).symm

theorem Order.bookAfter_same (o : Order) (b : CountBook) : (o.bookAfter b).siteTime = b.siteTime
    ∧ ∀ r : Fin 16, (o.bookAfter b).records[r].state = b.records[r].state ∧ (o.bookAfter b).records[r].show_ = b.records[r].show_ := by
  rw [bookAfter]
  split
  · exact ⟨rfl, fun _ => ⟨rfl, rfl⟩⟩
  · refine ⟨b.withCount_siteTime _ _ _, fun r => ?_⟩
    rw [CountBook.withCount_get]
    split <;> exact ⟨rfl, rfl⟩

theorem Order.releaseReport_bookAfter (o p : Order) (b : CountBook) : p.releaseReport (o.bookAfter b) = p.releaseReport b := by
  rw [releaseReport, releaseReport, ((o.bookAfter_same b).2 _).1, ((o.bookAfter_same b).2 _).2]

theorem foldl_queueAfter_length (own : List Order) (queue : List Entry) :
    (own.foldl (fun q o => o.queueAfter q) queue).length ≤ queue.length := by
  induction own generalizing queue with
  | nil => exact le_rfl
  | cons o own ih =>
    refine (ih (o.queueAfter queue)).trans ?_
    rw [Order.queueAfter]
    split
    · exact le_rfl
    · exact (o.queueLeft_length queue).2

/-- Live orders released one after another: each part of the state by itself. -/
theorem State.foldl_releaseOrder (own : List Order) (hlive : ∀ o ∈ own, o.state ≠ .orphaned) (s : State) :
    own.foldl (fun s o => s.releaseOrder o) s = { s with
      orders := { s.orders with
        table := own.foldl (fun t o => o.tableAfter t) s.orders.table
        ready := own.foldl (fun v o => o.readyAfter v) s.orders.ready
        deferred := own.foldl (fun d o => o.deferredAfter d) s.orders.deferred }
      cars := own.foldl (fun c o => o.carsAfter c) s.cars
      book := own.foldl (fun b o => o.bookAfter b) s.book
      announce := { s.announce with queue := own.foldl (fun q o => o.queueAfter q) s.announce.queue }
      notices := s.notices ++ List.replicate
        (s.announce.queue.length - (own.foldl (fun q o => o.queueAfter q) s.announce.queue).length) .slotFree
      link := own.foldl (fun (k : Link) o => k.postReport ⟨s.book.siteTime, o.window.val, o.releaseReport s.book⟩) s.link } := by
  induction own generalizing s with
  | nil => simp only [List.foldl_nil, Nat.sub_self, List.replicate_zero, List.append_nil]
  | cons o own ih =>
    have hlink : ∀ k : Link, own.foldl (fun (k : Link) p => k.postReport
          ⟨(o.bookAfter s.book).siteTime, p.window.val, p.releaseReport (o.bookAfter s.book)⟩) k
        = own.foldl (fun (k : Link) p => k.postReport ⟨s.book.siteTime, p.window.val, p.releaseReport s.book⟩) k := fun k =>
      List.foldl_ext _ _ _ fun k p _ => by rw [(o.bookAfter_same s.book).1, o.releaseReport_bookAfter]
    have h1 : (o.queueAfter s.announce.queue).length ≤ s.announce.queue.length :=
      foldl_queueAfter_length [o] s.announce.queue
    have h2 := foldl_queueAfter_length own (o.queueAfter s.announce.queue)
    rw [List.foldl_cons, ih (fun p hp => hlive p (List.mem_cons_of_mem _ hp)),
      s.releaseOrder_live (hlive o (List.mem_cons_self ..))]
    simp only [List.foldl_cons, hlink, List.append_assoc, List.replicate_append_replicate]
    rw [show s.announce.queue.length - (o.queueAfter s.announce.queue).length + ((o.queueAfter s.announce.queue).length
      - (own.foldl (fun q o => o.queueAfter q) (o.queueAfter s.announce.queue)).length) = s.announce.queue.length
      - (own.foldl (fun q o => o.queueAfter q) (o.queueAfter s.announce.queue)).length by omega]

/-! ## The parts after the releases, in closed form -/

/-- Of the orders of a release, those that expire: the ones that are not TAKEN (R176). -/
def expiredOf (own : List Order) : List Order := own.filter fun o => o.state ≠ .taken

theorem expiredOf_taken {o : Order} {own : List Order} (h : o.state = .taken) : expiredOf (o :: own) = expiredOf own :=
  List.filter_cons_of_neg (by simpa using h)

theorem expiredOf_served {o : Order} {own : List Order} (h : o.state ≠ .taken) : expiredOf (o :: own) = o :: expiredOf own :=
  List.filter_cons_of_pos (by simpa using h)

theorem foldl_tableAfter (own : List Order) (table : List Order) : own.foldl (fun t o => o.tableAfter t) table
    = (table.filter fun p => ∀ o ∈ own, o.state ≠ .taken → o.number ≠ p.number).map fun p =>
      if ∃ o ∈ own, o.state = .taken ∧ o.number = p.number then { p with state := .orphaned } else p := by
  induction own generalizing table with
  | nil => simp
  | cons o own ih =>
    rw [List.foldl_cons, ih, Order.tableAfter]
    split
    · next ht =>
      rw [List.filter_map, List.map_map]
      refine (List.map_congr_left fun p _ => ?_).trans (congrArg (List.map _) (List.filter_congr fun p _ => ?_))
      · rw [Function.comp_apply]
        by_cases hp : p.number = o.number
        · rw [if_pos hp]
          exact (ite_self _).trans (if_pos ⟨o, List.mem_cons_self .., ht, hp.symm⟩).symm
        · have hcons : (∃ q ∈ own, q.state = .taken ∧ q.number = p.number) ↔ ∃ q ∈ o :: own, q.state = .taken ∧ q.number = p.number :=
            ⟨fun ⟨q, hq, h⟩ => ⟨q, List.mem_cons_of_mem _ hq, h⟩, fun ⟨q, hq, h⟩ =>
              ⟨q, (List.mem_cons.1 hq).resolve_left fun e => hp (e ▸ h.2.symm), h⟩⟩
          rw [if_neg hp, if_congr hcons rfl rfl]
      · rw [Function.comp_apply]
        have hnum : (if p.number = o.number then { p with state := .orphaned } else p).number = p.number := by split <;> rfl
        rw [hnum]
        exact decide_eq_decide.2 (List.forall_mem_cons.trans (and_iff_right fun h => absurd ht h)).symm
    · next ht =>
      rw [List.filter_filter]
      refine (List.map_congr_left fun p _ => ?_).trans (congrArg (List.map _) (List.filter_congr fun p _ => ?_))
      · refine if_congr ?_ rfl rfl
        exact ⟨fun ⟨q, hq, h⟩ => ⟨q, List.mem_cons_of_mem _ hq, h⟩, fun ⟨q, hq, h⟩ =>
          ⟨q, (List.mem_cons.1 hq).resolve_left fun e => ht (e ▸ h.1), h⟩⟩
      · rw [← Bool.decide_and]
        refine decide_eq_decide.2 ?_
        rw [List.forall_mem_cons, and_comm, ne_comm]
        exact and_congr ⟨fun h _ => h, fun h => h ht⟩ Iff.rfl

theorem foldl_readyAfter (own : List Order) (ready : Vector (List Nat) 2) (w : Fin 2) :
    (own.foldl (fun v o => o.readyAfter v) ready)[w] = (expiredOf own).foldl (fun (l : List Nat) o =>
      if o.window = w then l.erase o.number else l) ready[w] := by
  induction own generalizing ready with
  | nil => rfl
  | cons o own ih =>
    rw [List.foldl_cons, ih, Order.readyAfter]
    by_cases ht : o.state = .taken
    · rw [if_pos ht, expiredOf_taken ht]
    · rw [if_neg ht, expiredOf_served ht, List.foldl_cons]
      by_cases hw : o.window = w
      · subst hw
        rw [vmod_at, if_pos rfl]
      · rw [vmod_at_ne _ _ (Ne.symm hw), if_neg hw]

theorem foldl_deferredAfter (own : List Order) (deferred : List Deferred) :
    own.foldl (fun d o => o.deferredAfter d) deferred
      = deferred.filter fun d => ∀ o ∈ expiredOf own, o.deferredMark = true → o.number ≠ d.order := by
  induction own generalizing deferred with
  | nil => exact (List.filter_eq_self.2 fun d _ => decide_eq_true nofun).symm
  | cons o own ih =>
    rw [List.foldl_cons, ih, Order.deferredAfter]
    by_cases ht : o.state = .taken
    · rw [if_pos ht, expiredOf_taken ht]
    · rw [if_neg ht, expiredOf_served ht, Order.deferredLeft]
      have hall : ∀ d : Deferred, (∀ p ∈ o :: expiredOf own, p.deferredMark = true → p.number ≠ d.order)
          ↔ (o.deferredMark = true → o.number ≠ d.order) ∧ ∀ p ∈ expiredOf own, p.deferredMark = true → p.number ≠ d.order :=
        fun d => List.forall_mem_cons
      split
      · next hm =>
        rw [List.filter_filter]
        refine List.filter_congr fun d _ => ?_
        rw [decide_eq_decide.2 (hall d), Bool.decide_and, Bool.and_comm]
        refine congrArg (· && _) (Bool.eq_iff_iff.2 ?_)
        rw [bne_iff_ne, decide_eq_true_iff, forall_prop_of_true hm, ne_comm]
      · next hm =>
        refine List.filter_congr fun d _ => decide_eq_decide.2 ?_
        rw [hall, and_iff_right fun h => absurd h hm]

theorem foldl_queueAfter (own : List Order) (queue : List Entry) : own.foldl (fun q o => o.queueAfter q) queue
    = ((expiredOf own).filter (·.deferredMark = false)).foldl
      (fun q o => q.eraseP (·.isCallOf o.number)) queue := by
  induction own generalizing queue with
  | nil => rfl
  | cons o own ih =>
    rw [List.foldl_cons, ih, Order.queueAfter]
    by_cases ht : o.state = .taken
    · rw [if_pos ht, expiredOf_taken ht]
    · rw [if_neg ht, expiredOf_served ht, Order.queueLeft]
      cases hm : o.deferredMark with
      | true => rw [if_pos rfl, List.filter_cons_of_neg (by simp [hm])]
      | false => rw [if_neg (by decide), List.filter_cons_of_pos (by simp [hm]), List.foldl_cons]

/-- A number of expired orders added one by one, saturating (R126). -/
def expiredTimes (n e : Nat) : Nat := (fun k => add16 k 1)^[n] e

theorem expiredTimes_pos {n e : Nat} (h : n ≠ 0) : expiredTimes n e = min 65535 (e + n) := by
  induction n with
  | zero => exact absurd rfl h
  | succ n ih =>
    rw [expiredTimes, Function.iterate_succ_apply']
    rcases Nat.eq_zero_or_pos n with rfl | hn
    · rfl
    · rw [show (fun k => add16 k 1)^[n] e = _ from ih hn.ne']
      simp only [add16, saturate]
      omega

theorem expiredTimes_le {n e : Nat} (h : e ≤ 65535) : expiredTimes n e = min 65535 (e + n) := by
  rcases Nat.eq_zero_or_pos n with rfl | hn
  · exact (min_eq_right h).symm
  · exact expiredTimes_pos hn.ne'

/-- Each record's orders expired rise by the expired orders that name it, while it is OPEN with their show. -/
theorem foldl_bookAfter (own : List Order) (b : CountBook) (r : Fin 16) :
    (own.foldl (fun b o => o.bookAfter b) b).records[r] = { b.records[r] with counts := { b.records[r].counts with
      ordersExpired := expiredTimes ((expiredOf own).filter fun o => o.record = r
        ∧ b.records[r].state = .opened ∧ b.records[r].show_ = some o.show_).length b.records[r].counts.ordersExpired } } := by
  induction own generalizing b with
  | nil => rfl
  | cons o own ih =>
    rw [List.foldl_cons, ih, ((o.bookAfter_same b).2 r).1, ((o.bookAfter_same b).2 r).2, Order.bookAfter]
    by_cases ht : o.state = .taken
    · rw [if_pos ht, expiredOf_taken ht]
    · rw [if_neg ht, expiredOf_served ht, CountBook.withCount_get]
      split
      · next h => rw [List.filter_cons, if_pos (decide_eq_true h)]; rfl
      · next h => rw [List.filter_cons, if_neg fun hd => h (of_decide_eq_true hd)]

theorem foldl_bookAfter_frame (own : List Order) (b : CountBook) : own.foldl (fun b o => o.bookAfter b) b
    = { b with records := (own.foldl (fun b o => o.bookAfter b) b).records } := by
  induction own generalizing b with
  | nil => rfl
  | cons o own ih =>
    rw [List.foldl_cons]
    refine (ih _).trans ?_
    rw [Order.bookAfter]
    split
    · rfl
    · rw [CountBook.withCount]
      split <;> rfl

end Sys2Proof.Machine
end

section
/-! CHECKOUT (O44). -/

namespace Sys2Proof.Machine

/-- The order table after the release of every live order of it that a test names, numbers being distinct (R176). -/
theorem tableAfter_of_mem {table own : List Order} (R : Order → Prop) [DecidablePred R] (hd : (table.map (·.number)).Nodup)
    (hown : ∀ o, o ∈ own ↔ o ∈ table ∧ R o ∧ o.state ≠ .orphaned) : own.foldl (fun t o => o.tableAfter t) table
      = (table.filter fun p => ¬ R p ∨ p.state = .taken ∨ p.state = .orphaned).map fun p =>
        if R p ∧ p.state = .taken then { p with state := .orphaned } else p := by
  have hsame : ∀ p ∈ table, ∀ o ∈ own, o.number = p.number → o = p := fun p hp o ho h =>
    List.inj_on_of_nodup_map hd ((hown o).1 ho).1 hp h
  rw [foldl_tableAfter]
  refine (List.map_congr_left fun p hp => ?_).trans (congrArg (List.map _) (List.filter_congr fun p hp => ?_))
  · have hp := (List.mem_filter.1 hp).1
    refine if_congr ⟨fun ⟨o, ho, hs, hn⟩ => ?_, fun ⟨hr, hs⟩ => ?_⟩ rfl rfl
    · obtain rfl := hsame p hp o ho hn
      exact ⟨((hown o).1 ho).2.1, hs⟩
    · exact ⟨p, (hown p).2 ⟨hp, hr, by rw [hs]; decide⟩, hs, rfl⟩
  · refine decide_eq_decide.2 ⟨fun h => ?_, fun h o ho hs hn => ?_⟩
    · by_contra hno
      obtain ⟨hr, hno⟩ := not_or.1 hno
      obtain ⟨ht, ho⟩ := not_or.1 hno
      exact h p ((hown p).2 ⟨hp, not_not.1 hr, ho⟩) ht rfl
    · obtain rfl := hsame p hp o ho hn
      obtain ⟨-, hr, ho⟩ := (hown o).1 ho
      exact h.elim (· hr) fun h => h.elim hs ho

/-- Releases touch no car but those of their orders. -/
theorem carsAfter_filter (own : List Order) (P : Nat → Prop) [DecidablePred P] (h : ∀ o ∈ own, ¬ P o.tag) (cars : List Car) :
    (own.foldl (fun c o => o.carsAfter c) cars).filter (fun c => P c.tag) = cars.filter fun c => P c.tag := by
  induction own generalizing cars with
  | nil => rfl
  | cons o own ih =>
    have ho := h o (List.mem_cons_self ..)
    rw [List.foldl_cons, ih fun p hp => h p (List.mem_cons_of_mem _ hp), Order.carsAfter, List.filter_map]
    have hkeep : ∀ c : Car, (if c.tag = o.tag then { c with openOrders := c.openOrders - 1 } else c).tag = c.tag := fun c => by
      split <;> rfl
    refine (List.map_congr_left (g := id) fun c hc => ?_).trans ?_
    · have hP := of_decide_eq_true (List.mem_filter.1 hc).2
      rw [hkeep] at hP
      exact if_neg fun (e : c.tag = o.tag) => ho (e ▸ hP)
    · rw [List.map_id]
      exact List.filter_congr fun c _ => by rw [Function.comp_apply, hkeep]

theorem expiredOf_live {own : List Order} (h : ∀ o ∈ own, o.state ≠ .orphaned) :
    own.filter (fun o => o.state = .ready ∨ o.state = .called) = expiredOf own :=
  List.filter_congr fun o ho => decide_eq_decide.2 (Order.served_of_live (h o ho))

/-- The withdrawn calls, with the test of R77 written out. -/
theorem foldl_queueAfter' (own : List Order) (queue : List Entry) : own.foldl (fun q o => o.queueAfter q) queue
    = ((expiredOf own).filter (·.deferredMark = false)).foldl (fun (q : List Entry) o => q.eraseP fun e =>
      (e.kind == .call .orderReady || e.kind == .call .recall) && e.order == some o.number) queue := by
  rw [foldl_queueAfter]
  simp only [Entry.isCallOf_eq]

theorem vector_ext_at {α : Type} {n : Nat} {v w : Vector α n} (h : ∀ i : Fin n, v[i] = w[i]) : v = w :=
  Vector.ext fun j hj => h ⟨j, hj⟩

theorem CountBook.records_ext {b : CountBook} {v : Vector CountRecord 16} (h : ∀ r : Fin 16, b.records[r] = v[r]) :
    { b with records := v } = b := by
  rw [← vector_ext_at h]

/-- Where no order expires the count book stays as it is. -/
theorem foldl_bookAfter_none {own : List Order} (h : expiredOf own = []) (b : CountBook) :
    own.foldl (fun b o => o.bookAfter b) b = b := by
  rw [foldl_bookAfter_frame]
  refine CountBook.records_ext fun r => ?_
  rw [foldl_bookAfter, h]
  rfl

/-- Where all expired orders are of one OPEN record with its show, that record counts them. -/
theorem foldl_bookAfter_one {own : List Order} {q : Fin 16} {n : Nat} {b : CountBook} (hne : expiredOf own ≠ [])
    (h : ∀ o ∈ expiredOf own, o.record = q ∧ o.show_ = n) (hs : b.records[q].state = .opened)
    (hn : b.records[q].show_ = some n) : own.foldl (fun b o => o.bookAfter b) b = { b with
      records := vmod b.records q fun y => { y with counts := { y.counts with
        ordersExpired := min 65535 (y.counts.ordersExpired + (expiredOf own).length) } } } := by
  rw [foldl_bookAfter_frame]
  refine congrArg (fun v => { b with records := v }) ?_
  refine vector_ext_at fun r => (foldl_bookAfter own b r).trans ?_
  by_cases hr : r = q
  · subst hr
    have hall : ((expiredOf own).filter fun o => o.record = r ∧ b.records[r].state = .opened ∧ b.records[r].show_ = some o.show_)
        = expiredOf own := List.filter_eq_self.2 fun o ho =>
      decide_eq_true ⟨(h o ho).1, hs, hn.trans (congrArg some (h o ho).2.symm)⟩
    rw [hall, expiredTimes_pos (List.length_eq_zero_iff.not.2 hne), vmod_at]
  · have hnil : ((expiredOf own).filter fun o => o.record = r ∧ b.records[r].state = .opened ∧ b.records[r].show_ = some o.show_)
        = [] := List.filter_eq_nil_iff.2 fun o ho hd => hr ((of_decide_eq_true hd).1.symm.trans (h o ho).1)
    rw [hnil, vmod_at_ne _ _ hr]
    rfl

namespace State

variable (s : State)

theorem ordersOf_eq (n : Nat) : s.ordersOf n = s.orders.table.filter fun o => o.tag = n ∧ o.state ≠ .orphaned :=
  List.filter_congr fun o _ => Bool.eq_iff_iff.2 (by
    rw [Bool.and_eq_true, beq_iff_eq, bne_iff_ne, decide_eq_true_iff])

theorem mem_ordersOf {n : Nat} {o : Order} : o ∈ s.ordersOf n ↔ o ∈ s.orders.table ∧ o.tag = n ∧ o.state ≠ .orphaned := by
  rw [ordersOf_eq, List.mem_filter, decide_eq_true_iff]

/-- A car's release (R116): its orders, and then its record. -/
theorem releaseCar_eq (n : Nat) : s.releaseCar n = { s with
    orders := { s.orders with
      table := (s.ordersOf n).foldl (fun t o => o.tableAfter t) s.orders.table
      ready := (s.ordersOf n).foldl (fun v o => o.readyAfter v) s.orders.ready
      deferred := (s.ordersOf n).foldl (fun d o => o.deferredAfter d) s.orders.deferred }
    cars := s.cars.filter (·.tag ≠ n)
    book := (s.ordersOf n).foldl (fun b o => o.bookAfter b) s.book
    announce := { s.announce with queue := (s.ordersOf n).foldl (fun q o => o.queueAfter q) s.announce.queue }
    notices := s.notices ++ List.replicate
      (s.announce.queue.length - ((s.ordersOf n).foldl (fun q o => o.queueAfter q) s.announce.queue).length) .slotFree
    link := (s.ordersOf n).foldl (fun (k : Link) o =>
      k.postReport ⟨s.book.siteTime, o.window.val, o.releaseReport s.book⟩) s.link } := by
  have hcars := carsAfter_filter (s.ordersOf n) (fun t => t ≠ n) (fun o ho => not_not.2 (s.mem_ordersOf.1 ho).2.1) s.cars
  rw [releaseCar, releaseOrders, foldl_releaseOrder _ (fun o ho => (s.mem_ordersOf.1 ho).2.2), removeCar_eq, ← hcars]

theorem expiries_eq (n : Nat) : s.expiriesOf n = (expiredOf (s.ordersOf n)).length := by
  rw [expiriesOf, List.countP_eq_length_filter, ← expiredOf_live fun o ho => (s.mem_ordersOf.1 ho).2.2]
  exact congrArg List.length (List.filter_congr fun o _ => Bool.eq_iff_iff.2
    ((OrderState.served_iff _).trans decide_eq_true_iff.symm))

theorem orphans_eq (n : Nat) : s.orphansOf n = (s.ordersOf n).length - (expiredOf (s.ordersOf n)).length := by
  have hsum := List.length_eq_countP_add_countP (fun o : Order => o.state == .taken) (l := s.ordersOf n)
  have hexp : (expiredOf (s.ordersOf n)).length = (s.ordersOf n).countP fun o => ¬ (o.state == .taken) = true := by
    rw [expiredOf, List.countP_eq_length_filter]
    exact congrArg List.length (List.filter_congr fun o _ => decide_eq_decide.2 (not_congr beq_iff_eq.symm))
  rw [orphansOf]
  omega

end State

theorem checkoutEffect_accepted (s : State) {x : Half} {c : Car} (hx : x ≠ 0) (hf : s.findCar x.toNat = some c)
    (hc : c.state = .onLot) : checkoutEffect x s = (s.releaseCar c.tag, .ok (u8 c.screen.val ++ u8 c.record.val
      ++ u32 (c.admitted.getD 0) ++ u8 (s.orphansOf c.tag) ++ u8 (s.expiriesOf c.tag))) := by
  rw [checkoutEffect, if_neg hx, hf]
  dsimp only
  rw [if_neg (by rw [hc]; decide)]

/-- Settles O44. -/
theorem checkoutReleasesTheCar : Obligations.CheckoutReleasesTheCar := by
  unfold Obligations.CheckoutReleasesTheCar
  intro s tag x c time own served ht hx hf hc htime hd hown hserved
  obtain rfl : own = s.ordersOf x.toNat := by rw [hown, State.ordersOf_eq]
  rw [expiredOf_live fun o ho => (s.mem_ordersOf.1 ho).2.2] at hserved
  subst hserved
  have htag : c.tag = x.toNat := (State.findCar_some hf).2
  refine ⟨_, State.exec_accepted (r := .checkout x) rfl ht (checkoutEffect_accepted s hx hf hc), ?_, fun w => ?_, fun hnil => ?_,
    fun n hne hall hs hn => ?_⟩
  all_goals rw [State.releaseCar_eq, htag]
  · rw [tableAfter_of_mem (fun o => o.tag = x.toNat) hd fun o => s.mem_ordersOf, foldl_deferredAfter, foldl_queueAfter',
      State.orphans_eq, State.expiries_eq, htime]
    rfl
  · exact foldl_readyAfter _ _ w
  · exact foldl_bookAfter_none hnil s.book
  · exact foldl_bookAfter_one hne hall hs hn

end Sys2Proof.Machine
end

section
/-! The teardown cascade: admissions, cars with their orders, and the bound count record (O25). -/

namespace Sys2Proof.Machine

/-! ## Step 1: the admissions of the screen (R98) -/

/-- The admission of a lane that a screen's teardown ends. -/
def Lane.ending (c : Fin 6) (l : Lane) : Option Admission := l.pending.filter (·.screen = c)

theorem Lane.ending_iff {c : Fin 6} {l : Lane} {p : Admission} : l.ending c = some p ↔ l.pending = some p ∧ p.screen = c := by
  rw [ending, Option.filter_eq_some_iff, decide_eq_true_iff]

/-- The car table without the car of an ended admission. -/
def carsWithout (ended : Option Admission) (cars : List Car) : List Car :=
  ended.elim cars fun p => cars.filter (·.tag ≠ p.tag)

/-- The link with the report of an ended admission. -/
def Link.admissionEnded (time : Word) (i : Fin 8) (ended : Option Admission) (k : Link) : Link :=
  ended.elim k fun p => k.postReport ⟨time, i.val, .admissionEnded p.tag p.screen p.record .teardown⟩

namespace State

variable (s : State) (c : Fin 6)

theorem teardownLane_eq (i : Fin 8) : s.teardownLane c i = { s with
    lanes := vmod s.lanes i (Lane.tornDown c)
    cars := carsWithout (s.lanes[i].ending c) s.cars
    link := s.link.admissionEnded s.book.siteTime i (s.lanes[i].ending c) } := by
  rw [← teardownLane_lanes, teardownLane]
  cases hp : s.lanes[i].pending with
  | none =>
    have he : s.lanes[i].ending c = none := by rw [Lane.ending, hp]; rfl
    rw [he]
    rfl
  | some p =>
    dsimp only
    by_cases hc : p.screen = c
    · have he : s.lanes[i].ending c = some p := Lane.ending_iff.2 ⟨hp, hc⟩
      rw [if_pos hc, he, endAdmission_eq]
      rfl
    · have he : s.lanes[i].ending c = none := by rw [Lane.ending, hp, Option.filter_some, if_neg (by simpa using hc)]
      rw [if_neg hc, he]
      rfl

theorem foldl_teardownLane (xs : List (Fin 8)) (hx : xs.Nodup) : xs.foldl (fun s i => s.teardownLane c i) s = { s with
    lanes := xs.foldl (fun v i => vmod v i (Lane.tornDown c)) s.lanes
    cars := xs.foldl (fun cs i => carsWithout (s.lanes[i].ending c) cs) s.cars
    link := xs.foldl (fun k i => k.admissionEnded s.book.siteTime i (s.lanes[i].ending c)) s.link } := by
  induction xs generalizing s with
  | nil => rfl
  | cons x xs ih =>
    obtain ⟨hne, hxs⟩ := List.nodup_cons.1 hx
    have hlane : ∀ i ∈ xs, (vmod s.lanes x (Lane.tornDown c))[i] = s.lanes[i] := fun i hi =>
      vmod_at_ne _ _ fun e => hne (e ▸ hi)
    have hcars : ∀ cs : List Car, xs.foldl (fun cs i => carsWithout ((vmod s.lanes x (Lane.tornDown c))[i].ending c) cs) cs
        = xs.foldl (fun cs i => carsWithout (s.lanes[i].ending c) cs) cs := fun cs =>
      List.foldl_ext _ _ _ fun cs i hi => by rw [hlane i hi]
    have hlink : ∀ k : Link, xs.foldl (fun (k : Link) i => k.admissionEnded s.book.siteTime i
          ((vmod s.lanes x (Lane.tornDown c))[i].ending c)) k
        = xs.foldl (fun (k : Link) i => k.admissionEnded s.book.siteTime i (s.lanes[i].ending c)) k := fun k =>
      List.foldl_ext _ _ _ fun k i hi => by rw [hlane i hi]
    rw [List.foldl_cons, ih _ hxs, teardownLane_eq]
    simp only [List.foldl_cons, hcars, hlink]

theorem cancelAdmissions_eq : s.cancelAdmissions c = { s with
    lanes := s.lanes.map (Lane.tornDown c)
    cars := allLanes.foldl (fun cs i => carsWithout (s.lanes[i].ending c) cs) s.cars
    link := allLanes.foldl (fun k i => k.admissionEnded s.book.siteTime i (s.lanes[i].ending c)) s.link } := by
  rw [cancelAdmissions, foldl_teardownLane _ _ _ nodup_allLanes, foldl_vmod_all _ _ nodup_allLanes mem_allLanes]

end State

theorem foldl_carsWithout (ended : Fin 8 → Option Admission) (xs : List (Fin 8)) (cars : List Car) :
    xs.foldl (fun cs i => carsWithout (ended i) cs) cars
      = cars.filter fun x => ∀ i ∈ xs, ∀ p ∈ ended i, x.tag ≠ p.tag := by
  induction xs generalizing cars with
  | nil => exact (List.filter_eq_self.2 fun x _ => decide_eq_true nofun).symm
  | cons i xs ih =>
    rw [List.foldl_cons, ih, carsWithout]
    cases he : ended i with
    | none =>
      refine List.filter_congr fun x _ => decide_eq_decide.2 ?_
      rw [List.forall_mem_cons, he]
      exact (and_iff_right nofun).symm
    | some p =>
      rw [Option.elim_some, List.filter_filter]
      refine List.filter_congr fun x _ => ?_
      rw [← Bool.decide_and]
      refine decide_eq_decide.2 ?_
      rw [List.forall_mem_cons, he, and_comm]
      refine and_congr ⟨fun h q hq => ?_, fun h => h p rfl⟩ Iff.rfl
      cases hq
      exact h

/-- The cars that step 1 leaves, admissions and PENDING cars being in order: all but the screen's PENDING ones. -/
theorem State.cancelAdmissions_cars {s : State} (c : Fin 6) (hr : carsRise s.cars) (hs : s.admissionsOk) :
    (s.cancelAdmissions c).cars = s.cars.filter fun x => ¬ (x.screen = c ∧ x.state = .pending) := by
  rw [cancelAdmissions_eq]
  refine (foldl_carsWithout _ _ _).trans (List.filter_congr fun x hx => decide_eq_decide.2 ?_)
  obtain ⟨hlane, hcar⟩ := hs
  refine ⟨fun h ⟨hc, hp⟩ => h x.lane (mem_allLanes _) _ (Lane.ending_iff.2 ⟨hcar x hx hp, hc⟩) rfl, fun h i _ p hp htag => h ?_⟩
  obtain ⟨hpend, hc⟩ := Lane.ending_iff.1 hp
  obtain ⟨y, hy, hyt, hys, -, hyp, -⟩ := hlane i p hpend
  obtain rfl := List.inj_on_of_nodup_map (hr.1.imp ne_of_lt) hx hy (htag.trans hyt.symm)
  exact ⟨hys.trans hc, hyp⟩

end Sys2Proof.Machine
end

section
/-! The teardown cascade, steps 2 to 4: the screen's cars released, its record closed (O25). -/

namespace Sys2Proof.Machine

/-! ## Releases in a row -/

theorem foldl_bookAfter_same (own : List Order) (b : CountBook) : (own.foldl (fun b o => o.bookAfter b) b).siteTime = b.siteTime
    ∧ ∀ p : Order, p.releaseReport (own.foldl (fun b o => o.bookAfter b) b) = p.releaseReport b := by
  refine ⟨by rw [foldl_bookAfter_frame], fun p => ?_⟩
  rw [Order.releaseReport, Order.releaseReport, foldl_bookAfter]

namespace State

variable (s : State)

/-- The orders of other cars stay as they were when a car is released, numbers being distinct. -/
theorem ordersOf_releaseCar (hd : (s.orders.table.map (·.number)).Nodup) {n m : Nat} (hne : m ≠ n) :
    (s.releaseCar n).ordersOf m = s.ordersOf m := by
  rw [ordersOf_eq, ordersOf_eq, releaseCar_eq]
  dsimp only
  rw [tableAfter_of_mem (fun o => o.tag = n) hd fun o => s.mem_ordersOf, List.filter_map, List.filter_filter]
  have hkeep : ∀ o : Order, (if o.tag = n ∧ o.state = .taken then { o with state := .orphaned } else o).tag = o.tag := fun o => by
    split <;> rfl
  refine (List.map_congr_left (g := id) fun o ho => ?_).trans ((List.map_id _).trans (List.filter_congr fun o _ => ?_))
  · have htag := (of_decide_eq_true (Bool.and_eq_true_iff.1 (List.mem_filter.1 ho).2).1).1
    rw [hkeep] at htag
    exact if_neg fun h => hne (htag.symm.trans h.1)
  · rw [Function.comp_apply, ← Bool.decide_and]
    refine decide_eq_decide.2 ⟨fun ⟨⟨ht, hs⟩, _⟩ => ?_, fun ⟨ht, hs⟩ => ⟨⟨(hkeep o).trans ht, ?_⟩, .inl fun h => hne (ht.symm.trans h)⟩⟩
    · rw [hkeep] at ht
      rw [if_neg fun h => hne (ht.symm.trans h.1)] at hs
      exact ⟨ht, hs⟩
    · rw [if_neg fun h => hne (ht.symm.trans h.1)]
      exact hs

theorem releaseCar_nodup (hd : (s.orders.table.map (·.number)).Nodup) (n : Nat) :
    ((s.releaseCar n).orders.table.map (·.number)).Nodup := by
  rw [releaseCar_eq]
  dsimp only
  rw [tableAfter_of_mem (fun o => o.tag = n) hd fun o => s.mem_ordersOf, List.map_map]
  have hnum : ((·.number) ∘ fun o : Order => if o.tag = n ∧ o.state = .taken then { o with state := .orphaned } else o)
      = (·.number) := funext fun o => by rw [Function.comp_apply]; split <;> rfl
  rw [hnum]
  exact hd.sublist (List.filter_sublist.map _)

/-- The cars of several tags released one after another (R118), order numbers and tags being distinct. -/
theorem foldl_releaseCar (tags : List Nat) (htags : tags.Nodup) (s : State) (hd : (s.orders.table.map (·.number)).Nodup)
    (own : List Order) (hown : own = tags.flatMap s.ordersOf) : tags.foldl (fun s n => s.releaseCar n) s = { s with
      orders := { s.orders with
        table := own.foldl (fun t o => o.tableAfter t) s.orders.table
        ready := own.foldl (fun v o => o.readyAfter v) s.orders.ready
        deferred := own.foldl (fun d o => o.deferredAfter d) s.orders.deferred }
      cars := s.cars.filter (·.tag ∉ tags)
      book := own.foldl (fun b o => o.bookAfter b) s.book
      announce := { s.announce with queue := own.foldl (fun q o => o.queueAfter q) s.announce.queue }
      notices := s.notices ++ List.replicate
        (s.announce.queue.length - (own.foldl (fun q o => o.queueAfter q) s.announce.queue).length) .slotFree
      link := own.foldl (fun (k : Link) o => k.postReport ⟨s.book.siteTime, o.window.val, o.releaseReport s.book⟩) s.link } := by
  induction tags generalizing s own with
  | nil =>
    subst hown
    have hcars : s.cars.filter (·.tag ∉ ([] : List Nat)) = s.cars := List.filter_eq_self.2 fun _ _ => decide_eq_true List.not_mem_nil
    simp only [List.foldl_nil, List.flatMap_nil, Nat.sub_self, List.replicate_zero, List.append_nil, hcars]
  | cons n tags ih =>
    obtain ⟨hn, htags⟩ := List.nodup_cons.1 htags
    have hrest : tags.flatMap (s.releaseCar n).ordersOf = tags.flatMap s.ordersOf :=
      List.flatMap_congr fun m hm => s.ordersOf_releaseCar hd fun e => hn (e ▸ hm)
    have h1 := foldl_queueAfter_length (s.ordersOf n) s.announce.queue
    have h2 := foldl_queueAfter_length (tags.flatMap s.ordersOf) ((s.ordersOf n).foldl (fun q o => o.queueAfter q) s.announce.queue)
    obtain ⟨htime, hreport⟩ := foldl_bookAfter_same (s.ordersOf n) s.book
    have hlen : s.announce.queue.length - ((s.ordersOf n).foldl (fun q o => o.queueAfter q) s.announce.queue).length
        + (((s.ordersOf n).foldl (fun q o => o.queueAfter q) s.announce.queue).length - ((tags.flatMap s.ordersOf).foldl
          (fun q o => o.queueAfter q) ((s.ordersOf n).foldl (fun q o => o.queueAfter q) s.announce.queue)).length)
        = s.announce.queue.length - ((tags.flatMap s.ordersOf).foldl
          (fun q o => o.queueAfter q) ((s.ordersOf n).foldl (fun q o => o.queueAfter q) s.announce.queue)).length := by omega
    have hcars : (s.cars.filter (·.tag ≠ n)).filter (·.tag ∉ tags) = s.cars.filter (·.tag ∉ n :: tags) := by
      rw [List.filter_filter]
      refine List.filter_congr fun c _ => ?_
      rw [← Bool.decide_and]
      exact decide_eq_decide.2 (by rw [List.mem_cons, not_or, and_comm])
    rw [List.foldl_cons, ih htags _ (s.releaseCar_nodup hd n) _ hrest.symm, hown, List.flatMap_cons, releaseCar_eq]
    simp only [List.foldl_append, htime, hreport, hcars, List.append_assoc, List.replicate_append_replicate, hlen]

end State

end Sys2Proof.Machine
end

section
/-! The teardown cascade as a whole (O25). -/

namespace Sys2Proof.Machine

/-- A record whose orders expired alone may have risen. -/
def CountRecord.expiredOnly (c d : CountRecord) : Prop := ∃ e, d = { c with counts := { c.counts with ordersExpired := e } }

namespace State

variable (s : State) (i : Fin 6)

/-! ## What the sweep leaves, whatever the orders -/

theorem sweep_book : ((s.sweep i).book.siteTime = s.book.siteTime)
    ∧ ∀ r : Fin 16, s.book.records[r].expiredOnly (s.sweep i).book.records[r] := by
  refine foldl_related (fun s t => t.book.siteTime = s.book.siteTime ∧ ∀ r : Fin 16, s.book.records[r].expiredOnly t.book.records[r])
    (fun s => ⟨rfl, fun r => ⟨_, rfl⟩⟩) (fun h k => ⟨k.1.trans h.1, fun r => ?_⟩) _ (fun s c => ?_) _ s
  · obtain ⟨e, he⟩ := h.2 r
    obtain ⟨f, hf⟩ := k.2 r
    exact ⟨f, by rw [hf, he]⟩
  · rw [releaseCar_eq]
    exact ⟨(foldl_bookAfter_same _ _).1, fun r => ⟨_, foldl_bookAfter _ _ r⟩⟩

theorem filter_tags (gone : List Car) (cars : List Car) : gone.foldl (fun cs c => cs.filter (·.tag ≠ c.tag)) cars
    = cars.filter fun x => ∀ c ∈ gone, x.tag ≠ c.tag := by
  induction gone generalizing cars with
  | nil => exact (List.filter_eq_self.2 fun _ _ => decide_eq_true nofun).symm
  | cons c gone ih =>
    rw [List.foldl_cons, ih, List.filter_filter]
    refine List.filter_congr fun x _ => ?_
    rw [← Bool.decide_and]
    refine decide_eq_decide.2 ?_
    rw [List.forall_mem_cons, and_comm]

theorem screen_of_sweep {c : Car} (h : c ∈ (s.sweep i).cars) : c.screen ≠ i := by
  rw [sweep, foldl_field State.cars _ (fun cs (c : Car) => cs.filter (·.tag ≠ c.tag)) (fun s c => by rw [releaseCar_eq]),
    filter_tags] at h
  obtain ⟨hm, hgone⟩ := List.mem_filter.1 h
  exact fun e => of_decide_eq_true hgone c (List.mem_filter.2 ⟨hm, beq_iff_eq.2 e⟩) rfl

/-! ## Steps 3 and 4 -/

/-- Of the state that the sweep leaves, steps 3 and 4 touch the screens, the records, the cue lines and the link. -/
theorem closed_frame (w : State) : (w.closeBound i).clearLines i = { w with
    screens := ((w.closeBound i).clearLines i).screens
    book := { w.book with records := ((w.closeBound i).clearLines i).book.records }
    cues := ((w.closeBound i).clearLines i).cues
    link := ((w.closeBound i).clearLines i).link } := by
  rw [closeBound]
  split
  · rfl
  · rw [postAll_eq]
    rfl

theorem closeBound_cues (w : State) : (w.closeBound i).cues = w.cues := by
  rw [closeBound]
  split
  · rfl
  · rw [postAll_eq]
    rfl

theorem closeBound_lanes (w : State) : (w.closeBound i).lanes = w.lanes ∧ (w.closeBound i).cars = w.cars := by
  rw [closeBound]
  split
  · exact ⟨rfl, rfl⟩
  · rw [postAll_eq]
    exact ⟨rfl, rfl⟩

theorem teardown_lanes : (s.teardown i).lanes = (s.cancelAdmissions i).lanes
    ∧ (s.teardown i).cars = ((s.cancelAdmissions i).sweep i).cars := by
  rw [teardown, clearLines, updCue_lanes, updCue_cars, (closeBound_lanes i _).1, (closeBound_lanes i _).2,
    (sweep_frame _ i).lanes]
  exact ⟨rfl, rfl⟩

theorem closeBound_link (w : State) {r : Fin 16} {n : Nat} {t : Word} (h : w.screens[i].bound = some r)
    (hc : w.book.records[r].screen = some i) (hn : w.book.records[r].show_ = some n)
    (ht : w.book.records[r].openedAt = some t) : (w.closeBound i).link = w.link.postReport
      ⟨w.book.siteTime, i.val, .countClosed r n t w.book.siteTime false⟩ := by
  have hclosed : (vmod w.book.records r fun c => c.close w.book.siteTime false)[r]
      = w.book.records[r].close w.book.siteTime false := vmod_at ..
  have hreport : closedReport r (w.book.records[r].close w.book.siteTime false)
      = (i.val, .countClosed r n t w.book.siteTime false) := by
    rw [closedReport, CountRecord.close]
    dsimp only
    rw [hc, hn, ht]
    rfl
  rw [closeBound, h]
  dsimp only
  rw [postAll_eq, updScreen_book, updRecord_book]
  dsimp only
  rw [hclosed, hreport]
  rfl

theorem teardown_cues : (s.teardown i).cues = vmod s.cues i fun u =>
    { u with levels := Vector.replicate 4 false, timers := Vector.replicate 4 none } := by
  rw [teardown, clearLines, updCue_cues, closeBound_cues, (sweep_frame _ i).cues, (s.cancelAdmissions_frame i).cues]

theorem teardown_records (r : Fin 16) : (s.teardown i).book.records[r] = if s.screens[i].bound = some r then
    ((s.cancelAdmissions i).sweep i).book.records[r].close s.book.siteTime false
    else ((s.cancelAdmissions i).sweep i).book.records[r] := by
  have hscreens : ((s.cancelAdmissions i).sweep i).screens = s.screens :=
    (sweep_frame _ i).screens.trans (s.cancelAdmissions_frame i).screens
  have htime : ((s.cancelAdmissions i).sweep i).book.siteTime = s.book.siteTime := by
    rw [(sweep_book _ i).1, cancelAdmissions_eq]
  rw [teardown, clearLines, updCue_book, closeBound_records, hscreens, htime]
  cases s.screens[i].bound with
  | none => rfl
  | some q =>
    dsimp only
    by_cases hq : q = r
    · subst hq
      rw [vmod_at, if_pos rfl]
    · rw [vmod_at_ne _ _ (Ne.symm hq), if_neg fun h => hq (Option.some.inj h)]

theorem teardown_link_none (h : s.screens[i].bound = none) :
    (s.teardown i).link = ((s.cancelAdmissions i).sweep i).link := by
  have hscreens : ((s.cancelAdmissions i).sweep i).screens = s.screens :=
    (sweep_frame _ i).screens.trans (s.cancelAdmissions_frame i).screens
  rw [teardown, clearLines, updCue_link, closeBound, hscreens, h]

theorem teardown_link {r : Fin 16} {n : Nat} {t : Word} (h : s.screens[i].bound = some r)
    (hc : s.book.records[r].screen = some i) (hn : s.book.records[r].show_ = some n)
    (ht : s.book.records[r].openedAt = some t) : (s.teardown i).link = ((s.cancelAdmissions i).sweep i).link.postReport
      ⟨s.book.siteTime, i.val, .countClosed r n t s.book.siteTime false⟩ := by
  have hbook : (s.cancelAdmissions i).book = s.book := by rw [cancelAdmissions_eq]
  have hscreens : ((s.cancelAdmissions i).sweep i).screens = s.screens :=
    (sweep_frame _ i).screens.trans (s.cancelAdmissions_frame i).screens
  obtain ⟨htime, hrec⟩ := sweep_book (s.cancelAdmissions i) i
  obtain ⟨e, he⟩ := hrec r
  rw [hbook] at htime he
  rw [teardown, clearLines, updCue_link, closeBound_link i _ (by rw [hscreens]; exact h) (by rw [he]; exact hc)
    (by rw [he]; exact hn) (by rw [he]; exact ht), htime]

end State

end Sys2Proof.Machine
end

section
/-! What the teardown cascade leaves (O25). -/

namespace Sys2Proof.Machine

namespace State

variable {s : State} {i : Fin 6}

theorem teardown_of_sweep {w : State} (hw : (s.cancelAdmissions i).sweep i = w) : s.teardown i = { w with
    screens := (s.teardown i).screens
    book := { w.book with records := (s.teardown i).book.records }
    cues := (s.teardown i).cues
    link := (s.teardown i).link } := by
  subst hw
  exact closed_frame i _

theorem cancelAdmissions_link : (s.cancelAdmissions i).link = (List.finRange 8).foldl (fun (k : Link) l =>
    (s.lanes[l].pending.filter (·.screen = i)).elim k fun p =>
      k.postReport ⟨s.book.siteTime, l.val, .admissionEnded p.tag p.screen p.record .teardown⟩) s.link := by
  rw [cancelAdmissions_eq]
  rfl

/-- The screen's cars on the lot: those whose release the sweep is. -/
theorem sweep_cars (hr : carsRise s.cars) (hs : s.admissionsOk) :
    (s.cancelAdmissions i).cars.filter (·.screen == i) = s.cars.filter fun c => c.screen = i ∧ c.state = .onLot := by
  rw [cancelAdmissions_cars i hr hs, List.filter_filter]
  refine List.filter_congr fun c _ => ?_
  rw [Bool.eq_iff_iff, Bool.and_eq_true, decide_eq_true_iff, decide_eq_true_iff, beq_iff_eq]
  have hstate : c.state = .onLot ↔ ¬ c.state = .pending := by cases c.state <;> decide
  rw [hstate]
  exact ⟨fun ⟨hc, h⟩ => ⟨hc, fun hp => h ⟨hc, hp⟩⟩, fun ⟨hc, h⟩ => ⟨hc, fun hp => h hp.2⟩⟩

/-- The cars that the sweep leaves: those of the other screens. -/
theorem cars_left (hr : carsRise s.cars) (hs : s.admissionsOk) {tags : List Nat}
    (ht : tags = (s.cars.filter fun c => c.screen = i ∧ c.state = .onLot).map (·.tag)) :
    (s.cancelAdmissions i).cars.filter (·.tag ∉ tags) = s.cars.filter (·.screen ≠ i) := by
  rw [cancelAdmissions_cars i hr hs, List.filter_filter]
  refine List.filter_congr fun c hc => ?_
  have hmem : c.tag ∈ tags ↔ c.screen = i ∧ c.state = .onLot := by
    rw [ht, List.mem_map]
    refine ⟨fun ⟨d, hd, hdc⟩ => ?_, fun h => ⟨c, List.mem_filter.2 ⟨hc, decide_eq_true h⟩, rfl⟩⟩
    obtain ⟨hd, hlot⟩ := List.mem_filter.1 hd
    obtain rfl := List.inj_on_of_nodup_map (hr.1.imp ne_of_lt) hd hc hdc
    exact of_decide_eq_true hlot
  have hstate : c.state = .onLot ↔ ¬ c.state = .pending := by cases c.state <;> decide
  rw [← Bool.decide_and]
  refine decide_eq_decide.2 ?_
  rw [hmem, hstate]
  exact ⟨fun ⟨h1, h2⟩ h => h1 ⟨h, fun hp => h2 ⟨h, hp⟩⟩, fun h => ⟨fun hc => h hc.1, fun hc => h hc.1⟩⟩

theorem mem_swept_orders {tags : List Nat} {o : Order} : o ∈ tags.flatMap s.ordersOf
    ↔ o ∈ s.orders.table ∧ o.tag ∈ tags ∧ o.state ≠ .orphaned := by
  rw [List.mem_flatMap]
  constructor
  · rintro ⟨n, hn, ho⟩
    obtain ⟨hm, rfl, hs⟩ := s.mem_ordersOf.1 ho
    exact ⟨hm, hn, hs⟩
  · rintro ⟨hm, hn, hs⟩
    exact ⟨_, hn, s.mem_ordersOf.2 ⟨hm, rfl, hs⟩⟩

/-- The state that steps 1 and 2 of the teardown leave, tags, admissions and order numbers being in order. -/
theorem sweep_eq (hr : carsRise s.cars) (hs : s.admissionsOk) (ho : ordersRise s.orders.table) {tags : List Nat}
    (ht : tags = (s.cars.filter fun c => c.screen = i ∧ c.state = .onLot).map (·.tag)) {own : List Order}
    (hown : own = tags.flatMap s.ordersOf) : (s.cancelAdmissions i).sweep i = { s with
      lanes := s.lanes.map (Lane.tornDown i)
      cars := s.cars.filter (·.screen ≠ i)
      orders := { s.orders with
        table := (s.orders.table.filter fun o => o.tag ∉ tags ∨ o.state = .taken ∨ o.state = .orphaned).map fun o =>
          if o.tag ∈ tags ∧ o.state = .taken then { o with state := .orphaned } else o
        ready := own.foldl (fun v o => o.readyAfter v) s.orders.ready
        deferred := s.orders.deferred.filter fun d => ∀ o ∈ expiredOf own, o.deferredMark = true → o.number ≠ d.order }
      book := { s.book with records := (own.foldl (fun b o => o.bookAfter b) s.book).records }
      announce := { s.announce with queue := own.foldl (fun q o => o.queueAfter q) s.announce.queue }
      notices := s.notices ++ List.replicate
        (s.announce.queue.length - (own.foldl (fun q o => o.queueAfter q) s.announce.queue).length) .slotFree
      link := own.foldl (fun (k : Link) o => k.postReport ⟨s.book.siteTime, o.window.val, o.releaseReport s.book⟩)
        (s.cancelAdmissions i).link } := by
  have hd : (s.orders.table.map (·.number)).Nodup := ho.1.imp ne_of_lt
  have htags : tags.Nodup := ht ▸ (List.Nodup.sublist (List.filter_sublist.map _) (hr.1.imp ne_of_lt))
  have hu := s.cancelAdmissions_eq i
  have hsweep : (s.cancelAdmissions i).sweep i = tags.foldl (fun s n => s.releaseCar n) (s.cancelAdmissions i) := by
    rw [sweep, sweep_cars hr hs, ht, List.foldl_map]
  have hcars := cars_left hr hs ht
  have htable := tableAfter_of_mem (fun o => o.tag ∈ tags) hd (own := own) fun o => by rw [hown]; exact mem_swept_orders
  rw [hsweep, foldl_releaseCar tags htags _ (by rw [hu]; exact hd) own (by rw [hown, hu]; rfl), hcars, ← htable,
    ← foldl_deferredAfter, ← foldl_bookAfter_frame]
  rw [hu]

end State

/-- Settles O25. -/
theorem teardownReleasesTheShow : Obligations.TeardownReleasesTheShow := by
  unfold Obligations.TeardownReleasesTheShow
  refine ⟨fun s i => ⟨fun l => ?_, fun c hc => ?_, ?_, fun r hr => ?_, fun l => ?_, ?_, fun j hj => ?_, ?_,
    fun r n t h hc hn ht => s.teardown_link i h hc hn ht⟩,
    fun s i swept own served t hcars hadm horders hswept hown hserved ht => ?_⟩
  · rw [(s.teardown_lanes i).1, State.cancelAdmissions_pending]
  · exact (s.cancelAdmissions i).screen_of_sweep i ((s.teardown_lanes i).2 ▸ hc)
  · rw [s.screen_teardown i]
  · obtain ⟨-, hrec⟩ := (s.cancelAdmissions i).sweep_book i
    obtain ⟨e, he⟩ := hrec r
    rw [State.cancelAdmissions_eq] at he
    rw [s.teardown_records i r, if_pos hr, State.cancelAdmissions_eq, he]
    exact ⟨rfl, rfl, rfl, e, rfl⟩
  · rw [State.teardown_cues, vmod_at]
    exact ⟨Vector.getElem_replicate .., Vector.getElem_replicate ..⟩
  · rw [State.teardown_cues, vmod_at]
  · rw [State.teardown_cues, State.teardown_screens, vmod_at_ne _ _ hj, vmod_at_ne _ _ hj]
    exact ⟨rfl, rfl⟩
  · rw [State.cancelAdmissions_link]
    refine List.foldl_ext _ _ _ fun k l _ => ?_
    cases s.lanes[l].pending with
    | none => rfl
    | some p =>
      rw [Option.filter_some]
      by_cases hp : p.screen = i
      · rw [if_pos (decide_eq_true hp)]
        exact (if_pos hp).symm
      · rw [if_neg (by simpa using hp)]
        exact (if_neg hp).symm
  · have hown' : own = swept.flatMap s.ordersOf := by
      rw [hown]
      exact List.flatMap_congr fun n _ => (s.ordersOf_eq n).symm
    have hlive : ∀ o ∈ own, o.state ≠ .orphaned := fun o ho => by
      rw [hown'] at ho
      exact (State.mem_swept_orders.1 ho).2.2
    rw [expiredOf_live hlive] at hserved
    have hsweep := State.sweep_eq hcars hadm horders hswept hown'
    have heq := State.teardown_of_sweep hsweep
    rw [← ht] at heq
    have hqueue : t.announce.queue = own.foldl (fun q o => o.queueAfter q) s.announce.queue :=
      congrArg (fun t : State => t.announce.queue) heq
    have hready : t.orders.ready = own.foldl (fun v o => o.readyAfter v) s.orders.ready :=
      congrArg (fun t : State => t.orders.ready) heq
    refine ⟨?_, ?_, fun w => ?_, ?_, fun hb => ?_, fun r n c he hn hc => ?_⟩
    · rw [hserved, ← foldl_queueAfter', hqueue, hready]
      exact heq
    · rw [ht, s.screen_teardown i]
    · rw [hready, hserved, foldl_readyAfter]
    · exact congrArg State.link hsweep
    · rw [ht, s.teardown_link_none i hb]
    · have hrec : ((s.cancelAdmissions i).sweep i).book.records[r] = c := by
        rw [hc, hn, hserved, hsweep, ← expiredTimes_le he]
        exact foldl_bookAfter own s.book r
      rw [ht, State.teardown_records, hrec]
      rfl

end Sys2Proof.Machine
end

section
/-! Starts (O12, O13, O14). -/

namespace Sys2Proof.Machine

/-- While a frame is being sent, reports that find room wait behind those before them (R190 to R192). -/
theorem Link.postEach_busy {f : Sending} (time : Word) (rs : List (Nat × ReportRecord)) {l : Link} (h : l.sending = some f)
    (hroom : l.reports.length + rs.length ≤ 64) :
    l.postEach time rs = { l with reports := l.reports ++ rs.map fun r => ⟨time, r.1, r.2⟩ } := by
  induction rs generalizing l with
  | nil => rw [List.map_nil, List.append_nil]; rfl
  | cons r rs ih =>
    rw [List.length_cons] at hroom
    have hone : l.postReport ⟨time, r.1, r.2⟩ = { l with reports := l.reports ++ [⟨time, r.1, r.2⟩] } := by
      rw [postReport, queueReport, if_pos (by simp only [Config.reportQueue]; omega), startIfIdle]
      dsimp only
      rw [h]
    have hrest := ih (l := l.postReport ⟨time, r.1, r.2⟩) (by rw [hone]; exact h) (by
      rw [hone, List.length_append, List.length_singleton]; omega)
    refine (show l.postEach time (r :: rs) = _ from hrest).trans ?_
    rw [hone]
    simp only [List.append_assoc, List.singleton_append, List.map_cons]

theorem CountBook.openRecords_length (b : CountBook) : b.openRecords.length ≤ 16 := List.length_filter_le ..

namespace State

variable (s : State)

/-- The part just after a start: every block at its reset values, a backup domain, START on the line, and reports behind it. -/
def started (strap : Bool) (book : CountBook) (vbackup : Bool) (reads : Nat) (start : Report) (waiting : List Report) : State :=
  { s.resetBlocks strap with
    book := book
    vbackup := vbackup
    strapReads := reads
    link := { Link.reset strap with sending := some (.report start false), reports := waiting } }

/-- The COUNT_CLOSED reports of the records that a start closes (R136, R138). -/
def interruptReports : List Report := s.book.openRecords.map fun r =>
  ⟨s.book.siteTime, (closedReport r s.book.interrupt.records[r]).1, (closedReport r s.book.interrupt.records[r]).2⟩

theorem startKept_eq (cause : StartCause) (strap : Bool) : s.startKept cause strap =
    s.started strap s.book.interrupt s.vbackup s.strapReads ⟨s.book.siteTime, 0, .start cause false⟩ s.interruptReports := by
  have hlink : ((Link.reset strap).postReport ⟨s.book.siteTime, 0, .start cause false⟩)
      = { Link.reset strap with sending := some (.report ⟨s.book.siteTime, 0, .start cause false⟩ false) } := rfl
  rw [startKept, postAll_eq]
  refine congrArg (fun l => { s.resetBlocks strap with book := s.book.interrupt, link := l })
    ((congrArg (Link.postEach s.book.siteTime · _) hlink).trans
      ((Link.postEach_busy _ _ rfl ?_).trans ?_))
  · rw [List.length_map]
    exact (Nat.add_le_add_left s.book.openRecords_length _).trans (show 0 + 16 ≤ 64 by decide)
  · rw [List.map_map]
    rfl

theorem startLost_eq (strap : Bool) : s.startLost strap =
    s.started strap .rebuilt s.vbackup s.strapReads ⟨0, 0, .start .powerOn true⟩ [] := rfl

theorem siteReset_eq : s.siteReset = s.started (Config.strapLevel s.strapReads) s.book.interrupt s.vbackup (s.strapReads + 1)
    ⟨s.book.siteTime, 0, .start .siteReset false⟩ s.interruptReports := by
  rw [siteReset, startKept_eq]
  rfl

variable {s} {c : Instr} {strap : Bool}

theorem exec_restarts (h : s.restarts c strap) : exec c s = .next s.siteReset := by
  obtain ⟨hp, he, hc, -⟩ := h
  rcases hc with rfl | rfl
  · change Host.Outcome.next _ = _
    rw [ifPowered, if_pos hp, if_pos he]
  · change Host.Outcome.next _ = _
    rw [ifPowered, if_pos hp]
    cases hs : s.link.sending with
    | none =>
      rw [Link.endsPart, hs] at he
      cases he
    | some f =>
      dsimp only
      rw [if_pos he]

theorem exec_powerOn_lost (h : s.book.valid = false ∨ s.vbackup = false) : exec (.powerOn strap) s =
    .next (s.started strap .rebuilt true s.strapReads ⟨0, 0, .start .powerOn true⟩ []) := by
  have hv : ¬ s.losePower.book.valid = true := by
    rw [losePower]
    dsimp only
    rcases h with h | h
    · split
      · rw [h]
        decide
      · decide
    · rw [h, if_neg Bool.false_ne_true]
      decide
  change Host.Outcome.next _ = _
  rw [powerOn, if_neg hv, startLost_eq]
  rfl

theorem exec_powerOn_kept (hv : s.book.valid = true) (hb : s.vbackup = true) : exec (.powerOn strap) s =
    .next (s.started strap s.book.interrupt true s.strapReads ⟨s.book.siteTime, 0, .start .powerOn false⟩
      s.interruptReports) := by
  have hl : s.losePower = { s with powered := false } := by rw [losePower, hb]; rfl
  change Host.Outcome.next _ = _
  rw [powerOn, hl, if_pos hv, startKept_eq]
  rfl

/-- Every start leaves the part at its reset values outside the backup domain, with START on the line. -/
theorem exec_starts (h : s.starts c strap) : ∃ book vbackup reads start waiting,
    exec c s = .next (s.started strap book vbackup reads start waiting) := by
  rcases h with rfl | h
  · by_cases hv : s.book.valid = true
    · by_cases hb : s.vbackup = true
      · exact ⟨_, _, _, _, _, exec_powerOn_kept hv hb⟩
      · exact ⟨_, _, _, _, _, exec_powerOn_lost (.inr (Bool.eq_false_iff.2 hb))⟩
    · exact ⟨_, _, _, _, _, exec_powerOn_lost (.inl (Bool.eq_false_iff.2 hv))⟩
  · obtain ⟨-, -, -, rfl⟩ := id h
    exact ⟨_, _, _, _, _, (exec_restarts h).trans (congrArg _ s.siteReset_eq)⟩

end State

/-- Settles O12. -/
theorem startOfTheBackupDomain : Obligations.StartOfTheBackupDomain := by
  unfold Obligations.StartOfTheBackupDomain
  refine ⟨fun s strap h => ⟨_, State.exec_powerOn_lost h, fun r => Vector.getElem_replicate .., rfl, rfl, rfl, rfl, rfl, rfl, rfl⟩,
    fun s c cause h => ?_⟩
  have hrun : ∃ strap vbackup reads, vbackup = s.vbackup ∧ exec c s = .next (s.started strap s.book.interrupt vbackup reads
      ⟨s.book.siteTime, 0, .start cause false⟩ s.interruptReports) := by
    rcases h with ⟨⟨strap, h⟩, rfl⟩ | ⟨strap, rfl, rfl, hv, hb⟩
    · exact ⟨_, _, _, rfl, (State.exec_restarts h).trans (congrArg _ s.siteReset_eq)⟩
    · exact ⟨_, _, _, hb.symm, State.exec_powerOn_kept hv hb⟩
  obtain ⟨strap, vbackup, reads, hvb, hexec⟩ := hrun
  refine ⟨_, hexec, State.interrupt_records s.book, rfl, rfl, rfl, rfl, rfl, hvb, rfl, List.map_congr_left fun r hr => ?_⟩
  have hopen : s.book.records[r].state = .opened := beq_iff_eq.1 (List.mem_filter.1 hr).2
  rw [State.interrupt_records, if_pos hopen]
  rfl

namespace State

variable (s : State) (strap : Bool) (book : CountBook) (vbackup : Bool) (reads : Nat) (start : Report) (waiting : List Report)

theorem started_screen (i : Fin 6) : (s.started strap book vbackup reads start waiting).screens[i] = .reset :=
  Vector.getElem_replicate ..

theorem started_cue (i : Fin 6) : (s.started strap book vbackup reads start waiting).cues[i] = .reset :=
  Vector.getElem_replicate ..

theorem started_channel (i : Fin 6) : (s.started strap book vbackup reads start waiting).channels[i] = .reset :=
  Vector.getElem_replicate ..

end State

/-- Settles O13. -/
theorem startResetsScreensCuesChannels : Obligations.StartResetsScreensCuesChannels := by
  unfold Obligations.StartResetsScreensCuesChannels
  refine ⟨fun s c strap h => ?_, fun s c strap h => ?_⟩
  all_goals obtain ⟨book, vbackup, reads, start, waiting, hexec⟩ := State.exec_starts h; refine ⟨_, hexec, ?_⟩
  · refine ⟨rfl, fun i => ?_, rfl, rfl, rfl, rfl, fun i => ?_⟩
    · rw [State.lamp, State.douser, State.policies, State.started_screen]
      exact ⟨rfl, rfl, rfl, rfl⟩
    · rw [State.started_cue]
      exact ⟨rfl, fun l => ⟨Vector.getElem_replicate .., Vector.getElem_replicate ..⟩⟩
  · intro i
    rw [State.started_channel, State.started_screen]
    exact ⟨rfl, rfl, rfl, rfl, rfl, rfl, fun _ => rfl, rfl, rfl, rfl, rfl, rfl, rfl, rfl, rfl, rfl, rfl⟩

/-- Settles O14. -/
theorem startResetsTheOtherBlocks : Obligations.StartResetsTheOtherBlocks := by
  unfold Obligations.StartResetsTheOtherBlocks
  refine ⟨fun s c strap h => ?_, fun s c strap h => ?_⟩
  all_goals obtain ⟨book, vbackup, reads, start, waiting, hexec⟩ := State.exec_starts h; refine ⟨_, hexec, ?_⟩
  · exact ⟨rfl, rfl, fun i => Vector.getElem_map .., rfl, fun _ => rfl, rfl, rfl⟩
  · exact ⟨fun i => Vector.getElem_replicate .., fun st => Vector.getElem_map .., rfl, rfl, rfl, rfl,
      fun w => ⟨Vector.getElem_replicate .., Vector.getElem_map ..⟩, rfl, rfl, rfl, rfl, rfl, rfl, rfl, rfl⟩

end Sys2Proof.Machine
end

section
/-! Refused requests: none changes the state, and which cause gives which result (O9). -/

namespace Sys2Proof.Machine

/-! ## A refusal changes nothing (R188) -/

/-- Every leaf of an owning rule is an answer OK or leaves the state as it was. -/
theorem requestEffect_refused (r : Request) (s : State) : (requestEffect r s).2.result = .ok ∨ (requestEffect r s).1 = s := by
  cases r
  all_goals
    simp only [requestEffect, identifyEffect, getStatusEffect, setTimeEffect, setSiteEffect, siteResetEffect,
      loadProgramEffect, loadCuesEffect, strikeEffect, goEffect, holdEffect, resumeEffect, skipEffect, stopEffect,
      getScreenEffect, setChannelEffect, getChannelEffect, announceEffect, cancelAnnounceEffect, getAnnounceEffect,
      setLaneEffect, getLaneEffect, admitCarEffect, cancelAdmitEffect, checkoutEffect, getCarEffect, readCountEffect,
      releaseCountEffect, setCountPolicyEffect, loadMenuEffect, setStockEffect, setStationEffect, orderEffect,
      cancelOrderEffect, pickupEffect, getOrderEffect]
    repeat' split
    all_goals first | exact .inl rfl | exact .inr rfl

theorem exec_refusal {c : Instr} {tag : Byte} {r : Request} {s : State} (hc : c.request = some (tag, r)) (hf : r.fits = true)
    (ht : s.takes tag) (h : (requestEffect r s).2.result ≠ .ok) :
    exec c s = .next (s.refused tag (requestEffect r s).2.result (requestEffect r s).2.data) := by
  refine State.exec_answered hc ht (Prod.ext ((requestEffect_refused r s).resolve_left h) rfl) hf ?_
  rintro rfl
  exact h rfl

/-! ## Identifiers and codes out of range -/

theorem laneMode_none {b : Byte} (h : 2 < b.toNat) : laneMode? b = none := by
  rw [laneMode?]
  split <;> first | rfl | omega

theorem countPolicy_none {b : Byte} (h : 1 < b.toNat) : countPolicy? b = none := by
  rw [countPolicy?]
  split <;> first | rfl | omega

section Effects

variable {s : State} {b : Byte}

/-! ## Screens and cues -/

theorem loadProgramEffect_active {i : Fin 6} (hb : b.toNat = i.val)
    (h : s.screens[i].state = .running ∨ s.screens[i].state = .holding) (x y : Half) (ws : List SegmentWire) :
    loadProgramEffect b x y ws s = (s, .refused .screenActive) := by
  rw [loadProgramEffect, unit_eq hb]
  dsimp only
  rw [if_pos ((Screen.active_iff _).2 h)]

theorem loadCuesEffect_active {i : Fin 6} (hb : b.toNat = i.val)
    (h : s.screens[i].state = .running ∨ s.screens[i].state = .holding) (ws : List CueWire) :
    loadCuesEffect b ws s = (s, .refused .screenActive) := by
  rw [loadCuesEffect, unit_eq hb]
  dsimp only
  rw [if_pos ((Screen.active_iff _).2 h)]

theorem loadProgramEffect_bad {i : Fin 6} (hb : b.toNat = i.val) (hr : s.screens[i].state ≠ .running)
    (hh : s.screens[i].state ≠ .holding) (x y : Half) {ws : List SegmentWire}
    (h : ws = [] ∨ 32 < ws.length ∨ ∃ w ∈ ws, segment? w = none) :
    loadProgramEffect b x y ws s = (s, .refused .outOfRange) := by
  rw [loadProgramEffect, unit_eq hb]
  dsimp only
  rw [Screen.not_active hr hh, if_neg Bool.false_ne_true]
  rcases h with h | h | h
  · rw [if_pos (.inl (by rw [h]; rfl))]
  · rw [if_pos (.inr h)]
  · split
    · rfl
    · rw [readAll_none h]

theorem loadCuesEffect_bad {i : Fin 6} (hb : b.toNat = i.val) (hr : s.screens[i].state ≠ .running)
    (hh : s.screens[i].state ≠ .holding) {ws : List CueWire} (h : 24 < ws.length ∨ ∃ w ∈ ws, cue? w = none) :
    loadCuesEffect b ws s = (s, .refused .outOfRange) := by
  rw [loadCuesEffect, unit_eq hb]
  dsimp only
  rw [Screen.not_active hr hh, if_neg Bool.false_ne_true]
  rcases h with h | h
  · rw [if_pos h]
  · split
    · rfl
    · rw [readAll_none h]

theorem strikeEffect_cooling {i : Fin 6} (hb : b.toNat = i.val) (h : s.screens[i].state = .closing) :
    strikeEffect b s = (s, .refused .cooling) := by
  rw [strikeEffect, unit_eq hb]
  dsimp only
  rw [h]

theorem strikeEffect_state {i : Fin 6} (hb : b.toNat = i.val) (h : s.screens[i].state ∉ [ScreenState.dark, .closing]) :
    strikeEffect b s = (s, .refused .state) := by
  rw [strikeEffect, unit_eq hb]
  dsimp only
  cases hs : s.screens[i].state with
  | dark => exact absurd (hs ▸ List.mem_cons_self ..) h
  | closing => exact absurd (hs ▸ List.mem_cons_of_mem _ (List.mem_cons_self ..)) h
  | _ => rfl

theorem strikeEffect_full {i : Fin 6} (hb : b.toNat = i.val) (h : s.screens[i].state = .dark)
    (hfull : ∀ r : Fin 16, s.book.records[r].state ≠ .free) : strikeEffect b s = (s, .refused .countBookFull) := by
  rw [strikeEffect, unit_eq hb]
  dsimp only
  rw [h, State.freeRecord_none s hfull]

theorem holdEffect_state {i : Fin 6} (hb : b.toNat = i.val) (hr : s.screens[i].state ≠ .running)
    (hh : s.screens[i].state ≠ .holding) : holdEffect b s = (s, .refused .state) := by
  rw [holdEffect, unit_eq hb]
  dsimp only
  cases hs : s.screens[i].state with
  | running => exact absurd hs hr
  | holding => exact absurd hs hh
  | _ => rfl

theorem skipEffect_state {i : Fin 6} (hb : b.toNat = i.val) (hr : s.screens[i].state ≠ .running)
    (hh : s.screens[i].state ≠ .holding) : skipEffect b s = (s, .refused .state) := by
  rw [skipEffect, unit_eq hb]
  dsimp only
  cases hs : s.screens[i].state with
  | running => exact absurd hs hr
  | holding => exact absurd hs hh
  | _ => rfl

theorem resumeEffect_state {i : Fin 6} (hb : b.toNat = i.val) (hh : s.screens[i].state ≠ .holding) :
    resumeEffect b s = (s, .refused .state) := by
  rw [resumeEffect, unit_eq hb]
  dsimp only
  cases hs : s.screens[i].state with
  | holding => exact absurd hs hh
  | _ => rfl

/-! ## Announcements -/

theorem announceEffect_full {b1 b2 b3 : Byte} (h1 : b1 ≠ 0) (h2 : b2.toNat ≤ 3) (h3 : b3 ≠ 0) (h4 : b3.toNat ≤ 63)
    (hfull : 32 ≤ s.announce.queue.length) : announceEffect b1 b2 b3 s = (s, .refused .queueFull) := by
  rw [announceEffect, if_neg, s.enqueue_full _ _ _ _ _ _ hfull]
  rintro (h | h | h | h)
  · exact h1 h
  · exact absurd h2 (Nat.not_le.2 h)
  · exact h3 h
  · exact absurd h4 (Nat.not_le.2 h)

theorem cancelAnnounceEffect_none {x : Half} (hq : ∀ e ∈ s.announce.queue, e.number ≠ x.toNat)
    (ha : ∀ r, s.announce.onAir = some r → r.number ≠ x.toNat) :
    cancelAnnounceEffect x s = (s, .refused .noSuchEntry) := by
  rw [cancelAnnounceEffect, (s.kindOf_onAir hq).1, s.onAir_filter_none ha]
  rfl

theorem cancelAnnounceEffect_call {x : Half} {r : OnAir} {k : CallKind} (hq : ∀ e ∈ s.announce.queue, e.number ≠ x.toNat)
    (ha : s.announce.onAir = some r) (hn : r.number = x.toNat) (hk : r.kind = .call k) :
    cancelAnnounceEffect x s = (s, .refused .notCancellable) := by
  rw [cancelAnnounceEffect, (s.kindOf_onAir hq).1, s.onAir_filter ha hn, Option.map_some, hk]

/-! ## Lanes, cars and orders -/

theorem setLaneEffect_bad {bm : Byte} (y z : Half) (h : 7 < b.toNat ∨ 2 < bm.toNat) :
    setLaneEffect b bm y z s = (s, .refused .outOfRange) := by
  rw [setLaneEffect]
  rcases h with h | h
  · rw [unit_none h]
  · rw [laneMode_none h]
    cases unit? 8 b <;> rfl

theorem admitCarEffect_bad {bs bo : Byte} {x : Half} (h : 7 < b.toNat ∨ 5 < bs.toNat ∨ x = 0 ∨ bo = 0 ∨ 15 < bo.toNat) :
    admitCarEffect b x bs bo s = (s, .refused .outOfRange) := by
  rw [admitCarEffect]
  split
  · next i c hi hc =>
    rw [if_pos]
    rcases h with h | h | h | h | h
    · rw [unit_none h] at hi
      cases hi
    · rw [unit_none h] at hc
      cases hc
    · exact .inl h
    · exact .inr (.inl (by rw [h]; rfl))
    · exact .inr (.inr h)
  · rfl

/-- The checks of R92 after the operands' ranges, in order. -/
theorem admitCarEffect_checks {bs bo : Byte} {x : Half} {i : Fin 8} {c : Fin 6} (hl : b.toNat = i.val) (hs : bs.toNat = c.val)
    (hx : x ≠ 0) (ho : bo ≠ 0) (h15 : bo.toNat ≤ 15) {code : Result}
    (h : (if s.lanes[i].mode ≠ .entry then some Result.wrongLaneMode
      else if s.lanes[i].pending.isSome then some .laneBusy
      else if (s.policies c).gate = .closed then some .gateClosed
      else if (s.findCar x.toNat).isSome then some .duplicateTag
      else if s.carCount c ≥ s.site.capacity.get c then some .lotFull else none) = some code) :
    admitCarEffect b x bs bo s = (s, .refused code) := by
  have ho' : bo.toNat ≠ 0 := fun e => ho (BitVec.eq_of_toNat_eq e)
  rw [admitCarEffect, unit_eq hl, unit_eq hs]
  dsimp only
  rw [if_neg fun h => h.elim hx (by omega)]
  split_ifs at h ⊢ <;> cases h <;> rfl

theorem cancelAdmitEffect_none {i : Fin 8} (hl : b.toNat = i.val) (h : s.lanes[i].pending = none) :
    cancelAdmitEffect b s = (s, .refused .noSuchEntry) := by
  rw [cancelAdmitEffect, unit_eq hl]
  dsimp only
  rw [h]

end Effects

end Sys2Proof.Machine
end

section
/-! The refusal tables (O9). -/

namespace Sys2Proof.Machine

/-! ## SET_SITE -/

theorem windows_none {v : Six Byte} (h : ∃ b ∈ v.toList, 1 < b.toNat) : windows? v = none := by
  obtain ⟨b, hb, hlt⟩ := h
  have hnone : unit? 2 b = none := unit_none hlt
  rw [windows?]
  split
  · next h0 h1 h2 h3 h4 h5 =>
    simp only [Six.toList, List.mem_cons, List.not_mem_nil, or_false] at hb
    rcases hb with rfl | rfl | rfl | rfl | rfl | rfl <;> simp_all
  · rfl

theorem windows_some {v : Six Byte} (h : ∀ b ∈ v.toList, b.toNat ≤ 1) : ∃ ws, windows? v = some ws := by
  have hunit : ∀ b ∈ v.toList, ∃ w : Fin 2, unit? 2 b = some w := fun b hb =>
    ⟨⟨b.toNat, Nat.lt_succ_of_le (h b hb)⟩, unit_iff.2 rfl⟩
  simp only [Six.toList, List.mem_cons, List.not_mem_nil, or_false, forall_eq_or_imp, forall_eq] at hunit
  obtain ⟨⟨a, ha⟩, ⟨b, hb⟩, ⟨c, hc⟩, ⟨d, hd⟩, ⟨e, he⟩, ⟨f, hf⟩⟩ := hunit
  exact ⟨⟨a, b, c, d, e, f⟩, by rw [windows?, ha, hb, hc, hd, he, hf]⟩

theorem settingsOf_sum (w : SiteWire) (ws : Six (Fin 2)) :
    (settingsOf w ws).capacity.toList.sum = (w.capacity.toList.map fun h => min 500 h.toNat).sum := rfl

theorem settingsOf_capacity (w : SiteWire) (ws : Six (Fin 2)) (i : Fin 6) :
    (settingsOf w ws).capacity.get i = min 500 (w.capacity.get i).toNat := State.mapSix_get capacityOf w.capacity i

theorem clip_positive {x : Half} : x ≠ 0 ↔ 1 ≤ x.toNat := by
  rw [Nat.one_le_iff_ne_zero, Ne, Ne, not_iff_not]
  exact ⟨fun h => by rw [h]; rfl, fun h => BitVec.eq_of_toNat_eq h⟩

section Effects

variable {s : State}

theorem setSiteEffect_bad {w : SiteWire} (h : (∃ b ∈ w.window.toList, 1 < b.toNat) ∨ w.orderClip = 0 ∨ 255 < w.orderClip.toNat
    ∨ w.recallClip = 0 ∨ 255 < w.recallClip.toNat ∨ 2048 < (w.capacity.toList.map fun h => min 500 h.toNat).sum) :
    setSiteEffect w s = (s, ⟨.outOfRange, s.carCountBytes⟩) := by
  rw [setSiteEffect]
  split
  · rfl
  · next ws hw =>
    have hclip : ∀ x : Half, x = 0 ∨ 255 < x.toNat → clipOk x = false := fun x hx => by
      rw [Bool.eq_false_iff, Ne, clipOk_iff]
      rintro ⟨h1, h255⟩
      exact hx.elim (fun h0 => clip_positive.2 h1 h0) fun hgt => absurd h255 (Nat.not_le.2 hgt)
    dsimp only
    split
    · rfl
    · next hok =>
      rw [Bool.or_eq_true, Bool.not_eq_true', Bool.not_eq_true', not_or] at hok
      rw [if_pos]
      rw [settingsOf_sum]
      rcases h with h | h | h | h | h | h
      · rw [windows_none h] at hw
        cases hw
      · exact absurd (hclip _ (.inl h)) hok.1
      · exact absurd (hclip _ (.inr h)) hok.1
      · exact absurd (hclip _ (.inl h)) hok.2
      · exact absurd (hclip _ (.inr h)) hok.2
      · exact h

theorem setSiteEffect_inUse {w : SiteWire} (hw : ∀ b ∈ w.window.toList, b.toNat ≤ 1) (ho : clipOk w.orderClip = true)
    (hr : clipOk w.recallClip = true) (hsum : (w.capacity.toList.map fun h => min 500 h.toNat).sum ≤ 2048)
    (hc : ∃ i : Fin 6, min 500 (w.capacity.get i).toNat < s.carCount i) :
    setSiteEffect w s = (s, ⟨.capacityInUse, s.carCountBytes⟩) := by
  obtain ⟨ws, hws⟩ := windows_some hw
  obtain ⟨i, hi⟩ := hc
  rw [setSiteEffect, hws]
  dsimp only
  rw [ho, hr, if_neg (by decide), settingsOf_sum, if_neg (Nat.not_lt.2 hsum),
    if_pos ((capacityInUse_iff s _).2 ⟨i, by rw [settingsOf_capacity]; exact hi⟩)]

/-! ## Cars and orders -/

theorem findCar_absent {n : Nat} (h : ∀ a ∈ s.cars, a.tag ≠ n) : s.findCar n = none :=
  List.find?_eq_none.2 fun a ha => by rw [beq_iff_eq]; exact h a ha

theorem findCar_present {n : Nat} (h : ∃ a ∈ s.cars, a.tag = n) : (s.findCar n).isSome = true := by
  obtain ⟨a, ha, hn⟩ := h
  exact List.find?_isSome.2 ⟨a, ha, beq_iff_eq.2 hn⟩

theorem checkoutEffect_unknown {x : Half} (hx : x ≠ 0) (hf : s.findCar x.toNat = none) :
    checkoutEffect x s = (s, .refused .unknownCar) := by
  rw [checkoutEffect, if_neg hx, hf]

theorem checkoutEffect_pending {x : Half} {a : Car} (hx : x ≠ 0) (hf : s.findCar x.toNat = some a) (ha : a.state = .pending) :
    checkoutEffect x s = (s, .refused .notOnLot) := by
  rw [checkoutEffect, if_neg hx, hf]
  dsimp only
  rw [if_pos ha]

theorem getCarEffect_unknown {x : Half} (hx : x ≠ 0) (hf : s.findCar x.toNat = none) :
    getCarEffect x s = (s, .refused .unknownCar) := by
  rw [getCarEffect, if_neg hx, hf]

theorem pickupEffect_unknown {x : Half} (hx : x ≠ 0) (hf : s.findOrder x.toNat = none) :
    pickupEffect x s = (s, .refused .noSuchOrder) := by
  rw [pickupEffect, if_neg hx, hf]

theorem pickupEffect_state {x : Half} {o : Order} (hx : x ≠ 0) (hf : s.findOrder x.toNat = some o)
    (ho : o.state = .taken ∨ o.state = .orphaned) : pickupEffect x s = (s, .refused .state) := by
  rw [pickupEffect, if_neg hx, hf]
  rcases ho with ho | ho <;> simp only [ho, OrderState.served, Bool.false_eq_true, if_false]

theorem cancelOrderEffect_unknown {x : Half} (hx : x ≠ 0) (hf : s.findOrder x.toNat = none) :
    cancelOrderEffect x s = (s, .refused .noSuchOrder) := by
  rw [cancelOrderEffect, if_neg hx, hf]

theorem getOrderEffect_unknown {x : Half} (hx : x ≠ 0) (hf : s.findOrder x.toNat = none) :
    getOrderEffect x 0 s = (s, .refused .noSuchOrder) := by
  rw [getOrderEffect, if_neg fun h => hx (h.2 rfl), if_pos hx, hf]

theorem getOrderEffect_both {x y : Half} (hx : x ≠ 0) (hy : y ≠ 0) : getOrderEffect x y s = (s, .refused .outOfRange) := by
  rw [getOrderEffect, if_pos ⟨fun h => absurd h hx, fun h => absurd h hy⟩]

/-! ## Count book and kitchen -/

theorem releaseCountEffect_state {b : Byte} {r : Fin 16} (hb : b.toNat = r.val) (h : s.book.policy = .free ∨ s.key.office = true)
    (hs : s.book.records[r].state ≠ .closed) : releaseCountEffect b s = (s, .refused .state) := by
  have hkey : ¬ (s.book.policy = .keyed ∧ s.key.office = false) := fun ⟨hp, ho⟩ =>
    h.elim (fun hf => absurd (hf.symm.trans hp) (by decide)) fun ht => absurd (ht.symm.trans ho) (by decide)
  rw [releaseCountEffect, unit_eq hb]
  dsimp only
  rw [if_neg hkey, if_neg hs]

theorem loadMenuEffect_bad {b : Byte} {ws : List ItemWire} (h : ws = [] ∨ 128 < b.toNat + ws.length ∨ ∃ w ∈ ws, item? w = none) :
    loadMenuEffect b ws s = (s, .refused .outOfRange) := by
  rw [loadMenuEffect]
  split
  · rfl
  · next hok =>
    have hnone : readAll item? ws = none := by
      rcases h with h | h | h
      · exact absurd (.inr (.inl (by rw [h]; rfl))) hok
      · exact absurd (.inr (.inr h)) hok
      · exact readAll_none h
    rw [hnone]

theorem setStockEffect_bad {b k : Byte} {x y : Half} (h : (k ≠ 0 ∧ 9999 < x.toNat) ∨ 9999 < y.toNat) :
    setStockEffect b k x y s = (s, .refused .outOfRange) := by
  rw [setStockEffect]
  split
  · rfl
  · rw [if_pos (h.imp (And.imp_left (flagOf_iff k).2) id)]

end Effects

/-- Settles O9. -/
theorem refusalsChangeNothing : Obligations.RefusalsChangeNothing := by
  unfold Obligations.RefusalsChangeNothing
  refine ⟨fun c tag r s hc hf ht h => exec_refusal hc hf ht h, fun s tag b ht => ⟨fun h => ?_, fun h => ?_, fun h => ?_,
      fun h k x y => ?_, fun h o x => ?_⟩,
    fun s tag b ht => ⟨fun h => ⟨fun x y ws hws => ?_, fun ws hws => ?_, fun x1 x2 x3 x4 x5 => ?_⟩, fun i hb => ?_⟩,
    fun s tag b1 b2 b3 ht => ⟨fun h => ?_, fun h1 h2 h3 h4 hfull => ?_, fun x hq => ⟨fun ha => ?_, fun r k ha hn hk => ?_⟩⟩,
    fun s tag bl bs bo bm x y z ht => ⟨fun h => ?_, fun h => ?_, fun i hl hp => ?_, fun i c hl hs hx ho h15 => ?_⟩,
    fun s tag w counts ht hcounts => ?_, fun s tag x y ht => ?_, fun s tag b k x y ht => ?_⟩
  · simp only [List.forall_mem_cons, List.not_mem_nil, false_implies, implies_true, and_true]
    exact ⟨State.exec_refused (r := .strike b) rfl ht (by rw [requestEffect, strikeEffect, unit_none h]),
      State.exec_refused (r := .hold b) rfl ht (by rw [requestEffect, holdEffect, unit_none h]),
      State.exec_refused (r := .resume b) rfl ht (by rw [requestEffect, resumeEffect, unit_none h]),
      State.exec_refused (r := .skip b) rfl ht (by rw [requestEffect, skipEffect, unit_none h]),
      State.exec_refused (r := .stop b) rfl ht (by rw [requestEffect, stopEffect, unit_none h]),
      State.exec_refused (r := .getScreen b) rfl ht (by rw [requestEffect, getScreenEffect, unit_none h]),
      State.exec_refused (r := .getChannel b) rfl ht (by rw [requestEffect, getChannelEffect, unit_none h])⟩
  · simp only [List.forall_mem_cons, List.not_mem_nil, false_implies, implies_true, and_true]
    exact ⟨State.exec_refused (r := .getLane b) rfl ht (by rw [requestEffect, getLaneEffect, unit_none h]),
      State.exec_refused (r := .cancelAdmit b) rfl ht (by rw [requestEffect, cancelAdmitEffect, unit_none h])⟩
  · simp only [List.forall_mem_cons, List.not_mem_nil, false_implies, implies_true, and_true]
    exact ⟨State.exec_refused (r := .readCount b) rfl ht (by rw [requestEffect, readCountEffect, unit_none h]),
      State.exec_refused (r := .releaseCount b) rfl ht (by rw [requestEffect, releaseCountEffect, unit_none h])⟩
  · exact State.exec_refused (r := .setStock b k x y) rfl ht (by rw [requestEffect, setStockEffect, unit_none h])
  · exact State.exec_refused (r := .setStation b o x) rfl ht (by rw [requestEffect, setStationEffect, unit_none h])
  · exact State.exec_refused (r := .loadProgram b x y ws) rfl ht (by rw [requestEffect, loadProgramEffect, unit_none h])
      (decide_eq_true hws)
  · exact State.exec_refused (r := .loadCues b ws) rfl ht (by rw [requestEffect, loadCuesEffect, unit_none h])
      (decide_eq_true hws)
  · exact State.exec_refused (r := .setChannel b x1 x2 x3 x4 x5) rfl ht
      (by rw [requestEffect, setChannelEffect, unit_none h])
  · exact ⟨fun h => ⟨fun x y ws hws => State.exec_refused (r := .loadProgram b x y ws) rfl ht (loadProgramEffect_active hb h x y ws)
          (decide_eq_true hws),
        fun ws hws => State.exec_refused (r := .loadCues b ws) rfl ht (loadCuesEffect_active hb h ws) (decide_eq_true hws)⟩,
      fun hr hh => ⟨fun x y ws hws h => State.exec_refused (r := .loadProgram b x y ws) rfl ht
          (loadProgramEffect_bad hb hr hh x y h) (decide_eq_true hws),
        fun ws hws h => State.exec_refused (r := .loadCues b ws) rfl ht (loadCuesEffect_bad hb hr hh h) (decide_eq_true hws)⟩,
      fun h => State.exec_refused (r := .strike b) rfl ht (strikeEffect_cooling hb h),
      fun h => State.exec_refused (r := .strike b) rfl ht (strikeEffect_state hb h),
      fun h hfull => State.exec_refused (r := .strike b) rfl ht (strikeEffect_full hb h hfull),
      fun hr hh => ⟨State.exec_refused (r := .hold b) rfl ht (holdEffect_state hb hr hh),
        State.exec_refused (r := .skip b) rfl ht (skipEffect_state hb hr hh)⟩,
      fun hh => State.exec_refused (r := .resume b) rfl ht (resumeEffect_state hb hh)⟩
  · exact State.exec_refused (r := .announce b1 b2 b3) rfl ht (if_pos h)
  · exact State.exec_refused (r := .announce b1 b2 b3) rfl ht (announceEffect_full h1 h2 h3 h4 hfull)
  · exact State.exec_refused (r := .cancelAnnounce x) rfl ht (cancelAnnounceEffect_none hq ha)
  · exact State.exec_refused (r := .cancelAnnounce x) rfl ht (cancelAnnounceEffect_call hq ha hn hk)
  · exact State.exec_refused (r := .setLane bl bm y z) rfl ht (setLaneEffect_bad y z h)
  · exact State.exec_refused (r := .admitCar bl x bs bo) rfl ht (admitCarEffect_bad h)
  · exact State.exec_refused (r := .cancelAdmit bl) rfl ht (cancelAdmitEffect_none hl hp)
  · have hchecks := fun code => admitCarEffect_checks (s := s) (code := code) hl hs hx ho h15
    refine ⟨fun hm => State.exec_refused (r := .admitCar bl x bs bo) rfl ht (hchecks _ (if_pos hm)), fun hm => ?_⟩
    rw [if_neg (not_not.2 hm)] at hchecks
    refine ⟨fun hp => State.exec_refused (r := .admitCar bl x bs bo) rfl ht
      (hchecks _ (if_pos (Option.isSome_iff_ne_none.2 hp))), fun hp => ?_⟩
    rw [hp, if_neg (by decide)] at hchecks
    refine ⟨fun hg => State.exec_refused (r := .admitCar bl x bs bo) rfl ht (hchecks _ (if_pos hg)), fun hg => ?_⟩
    rw [if_neg hg] at hchecks
    refine ⟨fun hcar => State.exec_refused (r := .admitCar bl x bs bo) rfl ht (hchecks _ (if_pos (findCar_present hcar))),
      fun hcar hlot => State.exec_refused (r := .admitCar bl x bs bo) rfl ht (hchecks _ ?_)⟩
    rw [findCar_absent hcar, if_neg (by decide), if_pos hlot]
  · subst hcounts
    refine ⟨fun h => State.exec_answered (r := .setSite w) rfl ht (setSiteEffect_bad h),
      fun hw ho1 ho2 hr1 hr2 hsum hc => State.exec_answered (r := .setSite w) rfl ht
        (setSiteEffect_inUse hw ((clipOk_iff _).2 ⟨clip_positive.1 ho1, ho2⟩) ((clipOk_iff _).2 ⟨clip_positive.1 hr1, hr2⟩) hsum hc)⟩
  · refine ⟨State.exec_refused (r := .checkout 0) rfl ht
        (by rw [requestEffect, checkoutEffect, if_pos rfl]), State.exec_refused (r := .getCar 0) rfl ht
        (by rw [requestEffect, getCarEffect, if_pos rfl]),
      fun hx hcars => ⟨State.exec_refused (r := .checkout x) rfl ht (checkoutEffect_unknown hx (findCar_absent hcars)),
        State.exec_refused (r := .getCar x) rfl ht (getCarEffect_unknown hx (findCar_absent hcars))⟩,
      fun a hx hf ha => State.exec_refused (r := .checkout x) rfl ht (checkoutEffect_pending hx hf ha),
      State.exec_refused (r := .pickup 0) rfl ht
        (by rw [requestEffect, pickupEffect, if_pos rfl]), State.exec_refused (r := .cancelOrder 0) rfl ht
        (by rw [requestEffect, cancelOrderEffect, if_pos rfl]),
      fun hx hnone => ?_, fun o hx hf ho => State.exec_refused (r := .pickup x) rfl ht (pickupEffect_state hx hf ho),
      State.exec_refused (r := .getOrder 0 0) rfl ht (by rw [requestEffect, getOrderEffect, if_pos Iff.rfl]),
      fun hx hy => State.exec_refused (r := .getOrder x y) rfl ht (getOrderEffect_both hx hy)⟩
    have hf := s.findOrder_none hnone
    exact ⟨State.exec_refused (r := .pickup x) rfl ht (pickupEffect_unknown hx hf),
      State.exec_refused (r := .cancelOrder x) rfl ht (cancelOrderEffect_unknown hx hf),
      State.exec_refused (r := .getOrder x 0) rfl ht (getOrderEffect_unknown hx hf)⟩
  · exact ⟨fun r hb h hs => State.exec_refused (r := .releaseCount b) rfl ht (releaseCountEffect_state hb h hs),
      fun h => State.exec_refused (r := .setCountPolicy b) rfl ht
        (by rw [requestEffect, setCountPolicyEffect, countPolicy_none h]),
      fun ws hws h => State.exec_refused (r := .loadMenu b ws) rfl ht (loadMenuEffect_bad h) (decide_eq_true hws),
      fun h => State.exec_refused (r := .setStock b k x y) rfl ht (setStockEffect_bad h)⟩

end Sys2Proof.Machine
end

section
/-! The wire form of the requests (R189): each request is read back from its KIND and BODY, and a list that no frame can
carry is not. The four lists are read record by record, so each round trip is an induction along its list. -/
namespace Sys2Proof.Machine

/-! ## Fields -/

theorem triple_extractLsb' (x : Triple) : triple (x.extractLsb' 16 8) (x.extractLsb' 8 8) (x.extractLsb' 0 8) = x := by
  have high : x.extractLsb' 16 8 ++ x.extractLsb' 8 8 = x.extractLsb' 8 16 :=
    BitVec.extractLsb'_append_extractLsb'_eq_extractLsb' rfl
  rw [triple, high]
  exact BitVec.extractLsb'_append_extractLsb' (w := 16) (len := 8)

theorem word_extractLsb' (x : Word) :
    word (x.extractLsb' 24 8) (x.extractLsb' 16 8) (x.extractLsb' 8 8) (x.extractLsb' 0 8) = x := by
  have high : x.extractLsb' 24 8 ++ x.extractLsb' 16 8 = x.extractLsb' 16 16 :=
    BitVec.extractLsb'_append_extractLsb'_eq_extractLsb' rfl
  have three : x.extractLsb' 16 16 ++ x.extractLsb' 8 8 = x.extractLsb' 8 24 :=
    BitVec.extractLsb'_append_extractLsb'_eq_extractLsb' rfl
  rw [word, high, three]
  exact BitVec.extractLsb'_append_extractLsb' (w := 24) (len := 8)

theorem countByte_toNat {α : Type} {items : List α} (h : items.length ≤ 255) : (countByte items).toNat = items.length := by
  rw [countByte, BitVec.toNat_ofNat]; omega

/-! ## The four lists -/

theorem getSegments_put : ∀ gs : List SegmentWire, getSegments gs.length (gs.flatMap putSegment) = some gs
  | [] => rfl
  | g :: gs => by
    change (getSegments gs.length (gs.flatMap putSegment)).map _ = _
    rw [getSegments_put gs, triple_extractLsb']
    rfl

theorem getCues_put : ∀ es : List CueWire, getCues es.length (es.flatMap putCue) = some es
  | [] => rfl
  | e :: es => by
    change (getCues es.length (es.flatMap putCue)).map _ = _
    rw [getCues_put es, triple_extractLsb']
    rfl

theorem getItems_put : ∀ is : List ItemWire, getItems is.length (is.flatMap putItem) = some is
  | [] => rfl
  | i :: is => by
    change (getItems is.length (is.flatMap putItem)).map _ = _
    rw [getItems_put is, half_extractLsb', half_extractLsb', half_extractLsb']
    rfl

theorem getLines_put : ∀ ls : List LineWire, getLines ls.length (ls.flatMap putLine) = some ls
  | [] => rfl
  | l :: ls => by
    change (getLines ls.length (ls.flatMap putLine)).map _ = _
    rw [getLines_put ls]
    rfl

/-- Fewer bytes than lines: a count that has wrapped reads too few lines. -/
theorem getLines_length : ∀ (n : Nat) (bytes : List Byte) (ls : List LineWire), getLines n bytes = some ls →
    bytes.length = 2 * n
  | 0, [], _, _ => rfl
  | n + 1, i :: q :: rest, ls, h => by
    obtain ⟨ls', h', -⟩ := Option.map_eq_some_iff.1 (show (getLines n rest).map _ = some ls from h)
    rw [List.length_cons, List.length_cons, getLines_length n rest ls' h']
    omega
  | 0, _ :: _, _, h => nomatch h
  | _ + 1, [], _, h => nomatch h
  | _ + 1, [_], _, h => nomatch h

/-! ## The body of every request -/

/-- Reading with no bound on the body's length. -/
theorem requestBodyOf_body (r : Request) (h : r.fits = true) : requestBodyOf r.kind.toNat r.body = some (some r) := by
  cases r with
  | setTime t => exact congrArg (fun x => some (some (Request.setTime x))) (word_extractLsb' t)
  | loadProgram s t c gs =>
    have hlen : (countByte gs).toNat = gs.length := countByte_toNat ((of_decide_eq_true h).trans (by decide))
    change some ((getSegments (countByte gs).toNat (gs.flatMap putSegment)).map _) = _
    rw [hlen, getSegments_put, half_extractLsb', half_extractLsb']
    rfl
  | loadCues s es =>
    have hlen : (countByte es).toNat = es.length := countByte_toNat ((of_decide_eq_true h).trans (by decide))
    change some ((getCues (countByte es).toNat (es.flatMap putCue)).map _) = _
    rw [hlen, getCues_put]
    rfl
  | loadMenu s is =>
    have hlen : (countByte is).toNat = is.length := countByte_toNat ((of_decide_eq_true h).trans (by decide))
    change some ((getItems (countByte is).toNat (is.flatMap putItem)).map _) = _
    rw [hlen, getItems_put]
    rfl
  | order t ls =>
    have hlen : (countByte ls).toNat = ls.length := countByte_toNat (of_decide_eq_true h)
    change some ((getLines (countByte ls).toNat (ls.flatMap putLine)).map _) = _
    rw [hlen, getLines_put, half_extractLsb']
    rfl
  | setSite w => simp [requestBodyOf, Request.kind, Request.body, putHalf, Six.toList]
  | setChannel | setLane | admitCar | setStock | setStation | getOrder | cancelAnnounce | checkout | getCar | cancelOrder
  | pickup => simp [requestBodyOf, Request.kind, Request.body, putHalf]
  | _ => rfl

/-- A body of the wrong length for its kind, or longer than any frame's. -/
theorem decodeRequest_badLength {kind : Byte} {body : List Byte} {x : Option Request}
    (h : requestBodyOf kind.toNat body = some x) (hx : x = none ∨ 1024 < body.length) :
    decodeRequest kind body = .error .badLength := by
  rw [decodeRequest, h]
  cases x with
  | none => rfl
  | some r => exact if_neg (Nat.not_le.2 (hx.resolve_left nofun))

theorem decodeRequest_ok {kind : Byte} {body : List Byte} {r : Request}
    (h : requestBodyOf kind.toNat body = some (some r)) (hlen : body.length ≤ 1024) : decodeRequest kind body = .ok r := by
  rw [decodeRequest, h]
  exact if_pos hlen

theorem length_flatMap_of_const {α β : Type} {put : α → List β} {n : Nat} (h : ∀ x, (put x).length = n) (xs : List α) :
    (xs.flatMap put).length = xs.length * n := by
  simp [List.length_flatMap, h]

theorem length_body_loadProgram (s : Byte) (t c : Half) (gs : List SegmentWire) :
    (Request.loadProgram s t c gs).body.length = gs.length * 8 + 6 :=
  congrArg (· + 6) (length_flatMap_of_const (put := putSegment) (n := 8) (fun _ => rfl) gs)

theorem length_body_loadCues (s : Byte) (es : List CueWire) : (Request.loadCues s es).body.length = es.length * 9 + 2 :=
  congrArg (· + 2) (length_flatMap_of_const (put := putCue) (n := 9) (fun _ => rfl) es)

theorem length_body_loadMenu (s : Byte) (is : List ItemWire) : (Request.loadMenu s is).body.length = is.length * 9 + 2 :=
  congrArg (· + 2) (length_flatMap_of_const (put := putItem) (n := 9) (fun _ => rfl) is)

theorem length_body_order (t : Half) (ls : List LineWire) : (Request.order t ls).body.length = ls.length * 2 + 3 :=
  congrArg (· + 3) (length_flatMap_of_const (put := putLine) (n := 2) (fun _ => rfl) ls)

/-- The body of a request that fits a frame fits it. -/
theorem length_body_le (r : Request) (h : r.fits = true) : r.body.length ≤ 1024 := by
  cases r with
  | loadProgram s t c gs =>
    have hg : gs.length ≤ 127 := of_decide_eq_true h
    rw [length_body_loadProgram]; omega
  | loadCues s es =>
    have he : es.length ≤ 113 := of_decide_eq_true h
    rw [length_body_loadCues]; omega
  | loadMenu s is =>
    have hi : is.length ≤ 113 := of_decide_eq_true h
    rw [length_body_loadMenu]; omega
  | order t ls =>
    have hl : ls.length ≤ 255 := of_decide_eq_true h
    rw [length_body_order]; omega
  | _ => exact Nat.le_of_ble_eq_true rfl

theorem decodeRequest_body (r : Request) (h : r.fits = true) : decodeRequest r.kind r.body = .ok r :=
  decodeRequest_ok (requestBodyOf_body r h) (length_body_le r h)

/-- The lists of segments, cue entries and items run past the longest body; the count of an order's lines wraps. -/
theorem decodeRequest_misfit (r : Request) (h : r.fits = false) : decodeRequest r.kind r.body = .error .badLength := by
  cases r with
  | loadProgram s t c gs =>
    have hg : ¬ gs.length ≤ 127 := of_decide_eq_false h
    exact decodeRequest_badLength rfl (.inr (by rw [length_body_loadProgram]; omega))
  | loadCues s es =>
    have he : ¬ es.length ≤ 113 := of_decide_eq_false h
    exact decodeRequest_badLength rfl (.inr (by rw [length_body_loadCues]; omega))
  | loadMenu s is =>
    have hi : ¬ is.length ≤ 113 := of_decide_eq_false h
    exact decodeRequest_badLength rfl (.inr (by rw [length_body_loadMenu]; omega))
  | order t ls =>
    have hl : ¬ ls.length ≤ 255 := of_decide_eq_false h
    have hnone : getLines (countByte ls).toNat (ls.flatMap putLine) = none := by
      rw [Option.eq_none_iff_forall_ne_some]
      intro read hread
      have hlen := getLines_length _ _ _ hread
      rw [length_flatMap_of_const (n := 2) (fun _ => rfl)] at hlen
      have hcount := (countByte ls).isLt
      omega
    exact decodeRequest_badLength rfl (.inl (by rw [Request.body]; exact congrArg (Option.map _) hnone))
  | _ => exact Bool.noConfusion (show true = false from h)

/-- Settles O3, kind by kind. -/
theorem requestDecodeEncode : Obligations.RequestDecodeEncode := by
  unfold Obligations.RequestDecodeEncode
  exact fun r => ⟨decodeRequest_body r, decodeRequest_misfit r⟩

end Sys2Proof.Machine
end

section
/-! The link's service (R187): when it takes a frame, when it leaves the state alone, and the frames turned away (O8). -/
namespace Sys2Proof.Machine

namespace Link

variable {l : Link}

theorem serves_iff : l.serves = true ↔ l.replies.length < 4 ∧ l.resetTaken = false := by
  rw [serves, Bool.and_eq_true, decide_eq_true_eq, Bool.not_eq_true']

theorem serves_false_iff : l.serves = false ↔ 4 ≤ l.replies.length ∨ l.resetTaken = true := by
  rw [← Bool.not_eq_true, serves_iff, not_and_or, Nat.not_lt, Bool.not_eq_false]

/-- The arbiter leaves everything but what it sends and what waits to be sent. -/
theorem startIfIdle_eq : l.startIfIdle = { l with
    replies := l.startIfIdle.replies, reports := l.startIfIdle.reports, lost := l.startIfIdle.lost,
    sending := l.startIfIdle.sending } := by
  unfold startIfIdle
  cases l.sending with
  | some _ => rfl
  | none => cases l.replies with
    | cons _ _ => rfl
    | nil => cases l.reports with
      | cons _ _ => rfl
      | nil => rfl

theorem startIfIdle_received : l.startIfIdle.received = l.received := by rw [startIfIdle_eq]

theorem startIfIdle_resetTaken : l.startIfIdle.resetTaken = l.resetTaken := by rw [startIfIdle_eq]

/-- The arbiter starts one reply at most. -/
theorem length_replies_le_startIfIdle : l.replies.length ≤ l.startIfIdle.replies.length + 1 := by
  unfold startIfIdle
  cases l.sending with
  | some _ => exact Nat.le_succ _
  | none => cases l.replies with
    | cons _ _ => exact le_rfl
    | nil => exact Nat.zero_le _

theorem postImmediate_received (r : Reply) : (l.postImmediate r).received = l.received := by
  unfold postImmediate
  split
  · exact startIfIdle_received
  · rfl

/-- An immediate reply adds as much as the arbiter can start, so it does not bring the service's condition about. -/
theorem postImmediate_serves (r : Reply) (h : l.serves = false) : (l.postImmediate r).serves = false := by
  unfold postImmediate
  split
  · rw [serves_false_iff] at h ⊢
    refine h.imp (fun hr => ?_) fun ht => startIfIdle_resetTaken.trans ht
    have hle := length_replies_le_startIfIdle (l := { l with replies := l.replies ++ [r] })
    rw [List.length_append] at hle
    exact hr.trans (Nat.le_of_add_le_add_right hle)
  · exact h

end Link

namespace State

variable {s : State}

/-! ## The service's test -/

theorem serviceLoop_idle (h : s.link.received = [] ∨ s.link.serves = false) (n : Nat) : serviceLoop n s = s := by
  cases n with
  | zero => rfl
  | succ n =>
    rw [serviceLoop]
    split
    · rfl
    · next hr => exact if_neg (by rw [h.resolve_left (by rw [hr]; nofun)]; exact Bool.false_ne_true)

theorem service_idle (h : s.link.received = [] ∨ s.link.serves = false) : s.service = s := serviceLoop_idle h _

theorem serviceLoop_succ {f : RxFrame} {others : List RxFrame} (hr : s.link.received = f :: others)
    (hs : s.link.serves = true) (n : Nat) :
    serviceLoop (n + 1) s = serviceLoop n ((s.updLink fun l => { l with received := others }).takeFrame f) := by
  rw [serviceLoop]
  split
  · next h => rw [hr] at h; cases h
  · next h => rw [hr] at h; cases h; exact if_pos hs

/-- An immediate reply changes the link's reply queue alone where the service takes nothing. -/
theorem replyAtOnce_idle (h : s.link.received = [] ∨ s.link.serves = false) (r : Reply) :
    s.replyAtOnce r = s.updLink (·.postImmediate r) :=
  service_idle (h.imp (Link.postImmediate_received r).trans (Link.postImmediate_serves r))

theorem updLink_postImmediate (r : Reply) :
    s.updLink (·.postImmediate r) = if s.link.replies.length < 8 then s.updLink (·.postReply r) else s := by
  by_cases h : s.link.replies.length < 8
  · rw [if_pos h]
    exact congrArg (fun l => { s with link := l }) (if_pos h)
  · rw [if_neg h]
    exact congrArg (fun l => { s with link := l }) (if_neg h)

/-! ## A frame offered -/

theorem offer_waits (hs : s.link.serves = false) (hlen : s.link.received.length < 4) (f : RxFrame) :
    s.offer f = s.updLink fun l => { l with received := l.received ++ [f] } := by
  rw [offer, if_pos hlen]
  exact service_idle (.inr hs)

theorem offer_busy (hs : s.link.serves = false) (hlen : 4 ≤ s.link.received.length) (f : RxFrame) :
    s.offer f = s.updLink (·.postImmediate ⟨f.tag, .linkBusy, [f.kind], false⟩) := by
  rw [offer, if_neg (Nat.not_lt.2 hlen), replyAtOnce_idle (.inr hs)]

/-- A frame that finds no other and the service's condition is taken. -/
theorem offer_taken (hr : s.link.received = []) (hs : s.link.serves = true) (f : RxFrame) : s.offer f = s.takeFrame f := by
  have hjoined : ({ s.link with received := s.link.received ++ [f] } : Link).received = [f] := by rw [hr]; rfl
  have hback : ({ s.link with received := [] } : Link) = s.link := by rw [← hr]
  rw [offer, if_pos (by rw [hr]; decide), service]
  change serviceLoop (s.link.received ++ [f]).length _ = _
  rw [hr]
  refine (serviceLoop_succ (s := s.updLink fun l => { l with received := l.received ++ [f] }) (others := []) hjoined hs
    0).trans ?_
  change State.takeFrame { s with link := { s.link with received := [] } } f = _
  rw [hback]

theorem takeFrame_good {f : RxFrame} {r : Request} (ht : f.tag ≠ 0) (h : decodeRequest f.kind f.body = .ok r) :
    s.takeFrame f = s.take f.tag r := by
  rw [takeFrame, if_neg ht, h]

theorem takeFrame_badTag {f : RxFrame} (ht : f.tag = 0) : s.takeFrame f = s.refused 0 .badTag [f.kind] := by
  rw [takeFrame, if_pos ht, ht]
  rfl

theorem takeFrame_unknownKind {f : RxFrame} (ht : f.tag ≠ 0) (h : decodeRequest f.kind f.body = .error .unknownKind) :
    s.takeFrame f = s.refused f.tag .unknownKind [f.kind] := by
  rw [takeFrame, if_neg ht, h]
  rfl

theorem takeFrame_badLength {f : RxFrame} (ht : f.tag ≠ 0) (h : decodeRequest f.kind f.body = .error .badLength) :
    s.takeFrame f = s.refused f.tag .badLength [f.kind] := by
  rw [takeFrame, if_neg ht, h]
  rfl

/-! ## A request command -/

theorem request_offered (hp : s.powered = true) (h : s.link.received ≠ [] ∨ s.link.serves = false) (tag : Byte)
    (r : Request) : s.request tag r = s.offer ⟨tag, r.kind, r.body⟩ := by
  have hturned : ¬ (s.link.received.isEmpty && s.link.serves) = true := by
    rw [Bool.and_eq_true, List.isEmpty_iff, not_and_or, Bool.not_eq_true]
    exact h
  rw [request, ifPowered, if_pos hp, if_neg hturned]

theorem request_misfit {tag : Byte} {r : Request} (h : s.takes tag) (hf : r.fits = false) :
    s.request tag r = s.refused tag .badLength [r.kind] := by
  obtain ⟨hp, hr, hs, ht⟩ := h
  rw [request, ifPowered, if_pos hp, if_pos (by rw [hr, hs]; rfl), if_neg ht,
    if_neg (by rw [hf]; exact Bool.false_ne_true)]
  rfl

theorem exec_unknownKind_taken {tag kind : Byte} {body : List Byte} (hp : s.powered = true) (hr : s.link.received = [])
    (hs : s.link.serves = true) : exec (.unknownKind tag kind body) s = .next (s.takeFrame ⟨tag, kind, body⟩) := by
  change Host.Outcome.next _ = _
  rw [ifPowered, if_pos hp, if_pos (by rw [hr, hs]; rfl)]

end State

/-- Settles O8: a frame that cannot be taken is offered to the receive queue, and one that is taken meets the service's
checks. -/
theorem framesTurnedAway : Obligations.FramesTurnedAway := by
  unfold Obligations.FramesTurnedAway
  refine ⟨fun c tag r s hc hp hrx hrep => ?_, fun c tag r s hc hp hs hlen => ?_, fun s tag kind body hp hr hs => ?_,
    fun c tag r s hc hf => ⟨fun ht => ?_, fun ht => ?_⟩⟩
  · have hs : s.link.serves = false := Link.serves_false_iff.2 (.inl hrep)
    rw [exec_request hc, State.request_offered hp (.inr hs), State.offer_busy hs hrx]
    exact congrArg _ (State.updLink_postImmediate _)
  · rw [exec_request hc, State.request_offered hp (.inr hs), State.offer_waits hs hlen]
    rfl
  · rw [State.exec_unknownKind_taken hp hr hs]
    exact ⟨fun ht => congrArg _ (State.takeFrame_badTag ht), fun ht h => congrArg _ (State.takeFrame_unknownKind ht h),
      fun ht h => congrArg _ (State.takeFrame_badLength ht h)⟩
  · rw [exec_request hc, State.request_misfit ht hf]
  · exact State.takeFrame_badLength ht (decodeRequest_misfit r hf)

end Sys2Proof.Machine
end

section
/-! The receiver (R184 to R186): one rule per kind of byte, the receiver's bytes and gaps (O6), and a whole request frame (O4). -/
namespace Sys2Proof.Machine

/-- Two bytes are the field they make. -/
theorem putHalf_half (hi lo : Byte) : putHalf (half hi lo) = [hi, lo] := by
  rw [putHalf, half, BitVec.extractLsb'_append_eq_left, BitVec.extractLsb'_append_eq_right]

/-- The receiver's test of the last two bytes, high byte first (R183). -/
theorem checkOk_append_pair (bytes : List Byte) (hi lo : Byte) :
    checkOk (bytes ++ [hi, lo]) = true ↔ half hi lo = crc bytes := by
  rw [← putHalf_half, checkOk_append_putHalf]

namespace State

variable {s : State}

/-! ## One byte -/

theorem exec_rxByte_hunting (hp : s.powered = true) (h : s.link.receiver = .hunting) (b : Byte) (good : Bool) :
    exec (.rxByte b good) s = .next (if good = true ∧ b = 0xA5 then s.updLink (·.collect []) else s) := by
  change Host.Outcome.next _ = _
  rw [ifPowered, if_pos hp, h]
  exact congrArg Host.Outcome.next (if_congr (by rw [Bool.and_eq_true, beq_iff_eq]) rfl rfl)

theorem exec_rxByte_faulted {bytes : List Byte} (hp : s.powered = true) (h : s.link.receiver = .inFrame bytes) (b : Byte) :
    exec (.rxByte b false) s = .next (s.updLink Link.hunt) := by
  change Host.Outcome.next _ = _
  rw [ifPowered, if_pos hp, h]
  rfl

theorem exec_rxByte_inFrame {bytes : List Byte} (hp : s.powered = true) (h : s.link.receiver = .inFrame bytes) (b : Byte) :
    exec (.rxByte b true) s = .next (s.frameByte (bytes ++ [b])) := by
  change Host.Outcome.next _ = _
  rw [ifPowered, if_pos hp, h]
  rfl

theorem frameByte_badLen {hi lo : Byte} (h : (half hi lo).toNat < 2 ∨ 1026 < (half hi lo).toNat) :
    s.frameByte [hi, lo] = (s.updLink Link.hunt).replyAtOnce .badFrame :=
  if_pos ⟨rfl, h⟩

theorem frameByte_first (b : Byte) : s.frameByte [b] = s.updLink (·.collect [b]) := rfl

/-- A byte before the last, LEN being in range where it ends here (R184). -/
theorem frameByte_collects {hi lo : Byte} {inner : List Byte}
    (hrange : inner = [] → 2 ≤ (half hi lo).toNat ∧ (half hi lo).toNat ≤ 1026)
    (hlen : inner.length < (half hi lo).toNat + 2) :
    s.frameByte (hi :: lo :: inner) = s.updLink (·.collect (hi :: lo :: inner)) := by
  have hgood : ¬ ((hi :: lo :: inner).length = 2 ∧
      (lenOf (hi :: lo :: inner) < 2 ∨ Config.maxLen < lenOf (hi :: lo :: inner))) := by
    rintro ⟨hnil, hbad⟩
    obtain ⟨h2, hmax⟩ := hrange (List.eq_nil_of_length_eq_zero (Nat.succ.inj (Nat.succ.inj hnil)))
    exact hbad.elim (Nat.not_lt.2 h2) (Nat.not_lt.2 hmax)
  have hmore : ¬ (hi :: lo :: inner).length = lenOf (hi :: lo :: inner) + 4 := fun he =>
    absurd (Nat.succ.inj (Nat.succ.inj he)) (Nat.ne_of_lt hlen)
  rw [frameByte, if_neg hgood, if_neg hmore]

/-- The last byte of a frame, which LEN places (R182). -/
theorem frameByte_last {hi lo kind tag check b : Byte} {body : List Byte} (h : (half hi lo).toNat = body.length + 2) :
    s.frameByte (hi :: lo :: kind :: tag :: body ++ [check] ++ [b])
      = (s.updLink Link.hunt).judge (hi :: lo :: kind :: tag :: body ++ [check, b]) := by
  have hlen : (hi :: lo :: kind :: tag :: body ++ [check] ++ [b]).length = body.length + 2 + 4 := by simp
  have hend : (hi :: lo :: kind :: tag :: body ++ [check] ++ [b]).length
      = lenOf (hi :: lo :: kind :: tag :: body ++ [check] ++ [b]) + 4 := hlen.trans (congrArg (· + 4) h.symm)
  rw [frameByte, if_neg (fun hc => by rw [hlen] at hc; exact absurd hc.1 (by omega)), if_pos hend, List.append_assoc]
  rfl

/-! ## The judging of a complete frame -/

theorem judge_bad {bytes : List Byte} {check b : Byte} (h : half check b ≠ crc bytes) :
    s.judge (bytes ++ [check, b]) = s.replyAtOnce .badFrame :=
  if_neg (mt (checkOk_append_pair bytes check b).1 h)

theorem judge_good {hi lo kind tag check b : Byte} {body : List Byte}
    (h : half check b = crc (hi :: lo :: kind :: tag :: body)) :
    s.judge (hi :: lo :: kind :: tag :: body ++ [check, b]) = s.offer ⟨tag, kind, body⟩ := by
  have hbody : (body ++ [check, b]).take ((body ++ [check, b]).length - 2) = body := by
    rw [List.length_append, List.length_cons, List.length_singleton, Nat.add_sub_cancel, List.take_left]
  exact (if_pos ((checkOk_append_pair _ check b).2 h)).trans (congrArg (fun rest => s.offer ⟨tag, kind, rest⟩) hbody)

end State

/-- Settles O6: the rule of each kind of byte. -/
theorem receiverBytesAndGaps : Obligations.ReceiverBytesAndGaps := by
  unfold Obligations.ReceiverBytesAndGaps
  refine ⟨fun s b hp => ⟨fun good h => State.exec_rxByte_hunting hp h b good, fun bytes h => State.exec_rxByte_faulted hp h b,
    fun h => State.exec_rxByte_inFrame hp h b, fun hi h hidle hlen => ?_, fun hi h h2 hmax => ?_, fun hi lo inner h hlen => ?_,
    fun hi lo kind tag check body l h hlen hl => ?_⟩, fun s bytes ms hp h hms => ?_⟩
  · rw [State.exec_rxByte_inFrame hp h]
    refine congrArg _ ((State.frameByte_badLen hlen).trans ?_)
    exact State.replyAtOnce_idle (s := s.updLink Link.hunt) hidle _
  · rw [State.exec_rxByte_inFrame hp h]
    exact congrArg _ (State.frameByte_collects (fun _ => ⟨h2, hmax⟩) (Nat.succ_pos _))
  · rw [State.exec_rxByte_inFrame hp h]
    exact congrArg _ (State.frameByte_collects (inner := inner ++ [b]) (fun h => absurd h (by simp))
      (by rw [List.length_append]; exact hlen))
  · subst hl
    refine ⟨fun hbad hidle => ?_, fun hgood hs hfree => ?_, fun hgood hs hfull => ?_⟩ <;>
      rw [State.exec_rxByte_inFrame hp h, State.frameByte_last hlen]
    · rw [State.judge_bad hbad]
      exact congrArg _ (State.replyAtOnce_idle (s := s.updLink Link.hunt) hidle _)
    · rw [State.judge_good hgood]
      exact congrArg _ (State.offer_waits (s := s.updLink Link.hunt) hs hfree _)
    · rw [State.judge_good hgood]
      exact congrArg _ (State.offer_busy (s := s.updLink Link.hunt) hs hfull _)
  · change Host.Outcome.next _ = _
    rw [State.ifPowered, if_pos hp, h, hms]
    rfl

/-! ## A whole frame -/

namespace State

variable {s : State}

theorem receiveByte_of {t : State} {b : Byte} (h : exec (.rxByte b true) s = .next t) : s.receiveByte b = t := by
  rw [receiveByte, h]

theorem receiveByte_collecting {bytes : List Byte} {t : State} {b : Byte} (hp : s.powered = true)
    (h : (s.updLink (·.collect bytes)).frameByte (bytes ++ [b]) = t) :
    (s.updLink (·.collect bytes)).receiveByte b = t :=
  receiveByte_of ((exec_rxByte_inFrame (s := s.updLink (·.collect bytes)) hp rfl b).trans (congrArg _ h))

/-- Bytes inside a frame are collected one after another, up to its last. -/
theorem receive_collects (hp : s.powered = true) {hi lo : Byte}
    (hrange : 2 ≤ (half hi lo).toNat ∧ (half hi lo).toNat ≤ 1026) : ∀ xs inner : List Byte,
    inner.length + xs.length < (half hi lo).toNat + 2 →
    (s.updLink (·.collect (hi :: lo :: inner))).receive xs = s.updLink (·.collect (hi :: lo :: (inner ++ xs)))
  | [], inner, _ => by rw [List.append_nil]; rfl
  | x :: xs, inner, hlen => by
    rw [List.length_cons, ← Nat.add_assoc, Nat.add_right_comm] at hlen
    have hone : (s.updLink (·.collect (hi :: lo :: inner))).receiveByte x = s.updLink (·.collect (hi :: lo :: (inner ++ [x]))) :=
      receiveByte_collecting hp (frameByte_collects (inner := inner ++ [x]) (fun _ => hrange)
        (by rw [List.length_append]; exact (Nat.le_add_right _ _).trans_lt hlen))
    have hrest := receive_collects hp hrange xs (inner ++ [x]) (by rw [List.length_append]; exact hlen)
    rw [List.append_assoc] at hrest
    exact (congrArg (·.receive xs) hone).trans hrest

theorem updLink_collect_hunt (hunting : s.link.receiver = .hunting) (hgap : s.link.gapTimer = none) (bytes : List Byte) :
    (s.updLink (·.collect bytes)).updLink Link.hunt = s := by
  change { s with link := { s.link with receiver := .hunting, gapTimer := none } } = s
  rw [← hunting, ← hgap]

/-- A frame given byte by byte to a receiver that hunts with its timer stopped is offered (R182 to R186). -/
theorem receive_frame (hp : s.powered = true) (hunting : s.link.receiver = .hunting) (hgap : s.link.gapTimer = none)
    {hi lo kind tag check b : Byte} {body : List Byte} (hlen : (half hi lo).toNat = body.length + 2)
    (hbody : body.length ≤ 1024) (hcheck : half check b = crc (hi :: lo :: kind :: tag :: body)) :
    s.receive (0xA5 :: hi :: lo :: (kind :: tag :: body ++ [check] ++ [b])) = s.offer ⟨tag, kind, body⟩ := by
  have hrange : 2 ≤ (half hi lo).toNat ∧ (half hi lo).toNat ≤ 1026 := by omega
  have hsync : s.receiveByte 0xA5 = s.updLink (·.collect []) :=
    receiveByte_of ((exec_rxByte_hunting hp hunting _ true).trans (congrArg _ (if_pos ⟨rfl, rfl⟩)))
  have hfirst : (s.updLink (·.collect [])).receiveByte hi = s.updLink (·.collect [hi]) :=
    receiveByte_collecting hp (frameByte_first hi)
  have hsecond : (s.updLink (·.collect [hi])).receiveByte lo = s.updLink (·.collect [hi, lo]) :=
    receiveByte_collecting hp (frameByte_collects (fun _ => hrange) (Nat.succ_pos _))
  have hinner : (s.updLink (·.collect [hi, lo])).receive (kind :: tag :: body ++ [check])
      = s.updLink (·.collect (hi :: lo :: kind :: tag :: body ++ [check])) :=
    receive_collects hp hrange _ [] (by simp [hlen])
  have hlast : (s.updLink (·.collect (hi :: lo :: kind :: tag :: body ++ [check]))).receiveByte b = s.offer ⟨tag, kind, body⟩ :=
    receiveByte_collecting hp (by rw [frameByte_last hlen, judge_good hcheck, updLink_collect_hunt hunting hgap])
  rw [receive, List.foldl_cons, List.foldl_cons, List.foldl_cons, List.foldl_append, List.foldl_cons, List.foldl_nil, hsync,
    hfirst, hsecond]
  exact (congrArg (·.receiveByte b) hinner).trans hlast

theorem receive_frameBytes (hp : s.powered = true) (hunting : s.link.receiver = .hunting) (hgap : s.link.gapTimer = none)
    (kind tag : Byte) {body : List Byte} (hbody : body.length ≤ 1024) :
    s.receive (frameBytes kind tag body) = s.offer ⟨tag, kind, body⟩ := by
  have hlen : (BitVec.ofNat 16 (body.length + 2)).toNat = body.length + 2 := by rw [BitVec.toNat_ofNat]; omega
  refine Eq.trans ?_ (receive_frame hp hunting hgap ((congrArg _ (half_extractLsb' _)).trans hlen) hbody (half_extractLsb' _))
  rw [List.append_assoc]
  rfl

end State

/-- Settles O4: the bytes of the frame offer it to a service that takes it at once, as the command is. -/
theorem frameBytesTakeTheRequest : Obligations.FrameBytesTakeTheRequest := by
  unfold Obligations.FrameBytesTakeTheRequest
  intro c tag r s hc hf ht hunting hgap
  obtain ⟨hp, hr, hs, htag⟩ := id ht
  rw [exec_request hc, State.request_takes ht hf, State.receive_frameBytes hp hunting hgap _ _ (length_body_le r hf),
    State.offer_taken hr hs, State.takeFrame_good htag (decodeRequest_body r hf)]

end Sys2Proof.Machine
end

section
/-! The bytes of the frames sent (R188 to R190): each field of the model's writing is the field of the statement, then one
record after another. -/
namespace Sys2Proof.Machine

/-! ## Fields -/

theorem u16_eq_bytes2 (n : Nat) : u16 n = bytes2 n := by
  have hhi : (BitVec.ofNat 16 n).extractLsb' 8 8 = BitVec.ofNat 8 (n / 256) :=
    BitVec.eq_of_toNat_eq (by simp [Nat.shiftRight_eq_div_pow]; omega)
  have hlo : (BitVec.ofNat 16 n).extractLsb' 0 8 = BitVec.ofNat 8 n := BitVec.eq_of_toNat_eq (by simp)
  rw [u16, putHalf, hhi, hlo]

theorem u24_eq_bytes3 (n : Nat) : u24 n = bytes3 n := by
  have hhi : (BitVec.ofNat 24 n).extractLsb' 16 8 = BitVec.ofNat 8 (n / 65536) :=
    BitVec.eq_of_toNat_eq (by simp [Nat.shiftRight_eq_div_pow]; omega)
  have hmid : (BitVec.ofNat 24 n).extractLsb' 8 8 = BitVec.ofNat 8 (n / 256) :=
    BitVec.eq_of_toNat_eq (by simp [Nat.shiftRight_eq_div_pow]; omega)
  have hlo : (BitVec.ofNat 24 n).extractLsb' 0 8 = BitVec.ofNat 8 n := BitVec.eq_of_toNat_eq (by simp)
  rw [u24, putTriple, hhi, hmid, hlo]

theorem flag_eq_bit (b : Bool) : flag b = bit b := by cases b <;> rfl

/-- A presence byte, and the value when present, as the value is written. -/
theorem optional_eq_elim {α : Type} {f g : α → List Byte} (h : ∀ a, f a = g a) (x : Option α) :
    optional f x = x.elim [0] fun a => 1 :: g a := by
  cases x with
  | none => rfl
  | some a => exact congrArg (1 :: ·) (h a)

/-- The byte of a set of screens has the bit of each (R189). -/
theorem getLsbD_foldl_units (units : List (Fin 6)) (b : Byte) (k : Nat) :
    (units.foldl (fun b i => b ||| BitVec.ofNat 8 (2 ^ i.val)) b).getLsbD k
      = (b.getLsbD k || units.any fun i => i.val == k) := by
  induction units generalizing b with
  | nil => simp
  | cons i units ih =>
    have hbit : (BitVec.ofNat 8 (2 ^ i.val)).getLsbD k = (i.val == k) := by
      have hi := i.isLt
      rw [BitVec.getLsbD_ofNat, Nat.testBit_two_pow, Bool.eq_iff_iff]
      simp only [Bool.and_eq_true, decide_eq_true_eq, beq_iff_eq]
      omega
    rw [List.foldl_cons, ih, BitVec.getLsbD_or, hbit, List.any_cons, Bool.or_assoc]

theorem unitSet_eq {units : List (Fin 6)} {set : Byte} (h : ∀ k, set.getLsbD k = units.any fun i => i.val == k) :
    unitSet units = [set] := by
  refine congrArg (fun b => [b]) (BitVec.eq_of_getLsbD_eq fun k _ => ?_)
  rw [getLsbD_foldl_units, h]
  exact congrArg (· || _) BitVec.getLsbD_zero

/-! ## Codes -/

theorem Result.code_eq (x : Result) : x.code = List.idxOf x [.ok, .badFrame, .badTag, .unknownKind, .badLength, .outOfRange,
    .linkBusy, .state, .screenActive, .cooling, .noProgram, .cueRange, .countBookFull, .queueFull, .noSuchEntry,
    .notCancellable, .wrongLaneMode, .laneBusy, .gateClosed, .lotFull, .duplicateTag, .unknownCar, .notOnLot, .capacityInUse,
    .keyRequired, .carLimit, .orderingClosed, .itemUnavailable, .stationClosed, .soldOut, .orderTableFull, .stationFull,
    .tooLate, .noSuchOrder] := by
  cases x <;> rfl

theorem StartCause.code_eq (x : StartCause) : x.code = List.idxOf x [.powerOn, .siteReset] := by cases x <;> rfl

theorem ScreenState.code_eq (x : ScreenState) :
    x.code = List.idxOf x [.dark, .strikeWait, .striking, .ready, .running, .holding, .closing] := by cases x <;> rfl

theorem StateReason.code_eq (x : StateReason) : x.code = List.idxOf x [.strike, .grant, .stop, .struck, .go, .operator,
    .segmentHold, .pictureLost, .resume, .skip, .programEnd, .cooled] := by cases x <;> rfl

theorem HoldReason.code_eq (x : HoldReason) : x.code = List.idxOf x [.none, .operator, .segmentHold, .pictureLost] := by
  cases x <;> rfl

theorem SegmentKind.code_eq (x : SegmentKind) :
    x.code = List.idxOf x [.preshow, .trailers, .feature, .intermission, .closingReel] := by cases x <;> rfl

theorem GatePolicy.code_eq (x : GatePolicy) : x.code = List.idxOf x [.admitAll, .admitLate, .closed] := by cases x <;> rfl

theorem OrderPolicy.code_eq (x : OrderPolicy) : x.code = List.idxOf x [.opened, .lastCall, .closed] := by cases x <;> rfl

theorem AnnouncePolicy.code_eq (x : AnnouncePolicy) : x.code = List.idxOf x [.opened, .urgentOnly, .none] := by
  cases x <;> rfl

theorem AdmissionEnd.code_eq (x : AdmissionEnd) : x.code = List.idxOf x [.expired, .cancelled, .teardown] := by
  cases x <;> rfl

theorem EntryKind.code_eq (x : EntryKind) :
    x.code = List.idxOf x [.call .orderReady, .call .recall, .showNotice, .operator] := by
  cases x with
  | call k => cases k <;> rfl
  | showNotice => rfl
  | operator => rfl

theorem playOutcomeCode_eq (x : PlayOutcome) : playOutcomeCode x = List.idxOf x [.finished, .timeout, .cancelled] := by
  cases x <;> rfl

theorem OrderEnd.code_eq (x : OrderEnd) :
    x.code = List.idxOf x [.picked, .expired, .cancelled, .orphaned, .orphanDone] := by cases x <;> rfl

theorem StockCondition.code_eq (x : StockCondition) : x.code = List.idxOf x [.low, .soldOut] := by cases x <;> rfl

theorem AudioCondition.code_eq (x : AudioCondition) : x.code = List.idxOf x [.overrun, .underrun] := by cases x <;> rfl

theorem CountPolicy.code_eq (x : CountPolicy) : x.code = List.idxOf x [.free, .keyed] := by cases x <;> rfl

theorem openCode_eq (x : Bool) : openCode x = codeIn [true, false] x := by cases x <;> rfl

theorem secondCode_eq (x : Bool) : secondCode x = codeIn [false, true] x := by cases x <;> rfl

/-! ## Replies and reports -/

theorem reply_bytes (x : Result) (tag : Byte) (data : List Byte) (ends : Bool) :
    (Sending.reply ⟨tag, x, data, ends⟩).bytes = frameBytes 0x80 tag (u8 x.code ++ data) := rfl

/-- A report's frame, where its record is written as these fields (R190). -/
theorem sentAs_of {record : ReportRecord} {code : Byte} {fields : List Byte} (hcode : BitVec.ofNat 8 record.code = code)
    (h : record.bytes = fields) : record.sentAs code fields := by
  intro time subject mark
  subst hcode h
  change frameBytes 0x81 0 (u8 _ ++ u32 time ++ u8 subject ++ _ ++ flag mark) = _
  rw [flag_eq_bit]
  rfl

theorem attributionBytes_eq (a : Attribution) :
    attributionBytes a = bytes1 a.screen.val ++ bytes1 a.record.val ++ bytes2 a.show_ := by
  rw [attributionBytes, u16_eq_bytes2]
  rfl

theorem positionBytes_eq (p : Position) : positionBytes p = bytes1 p.segment ++ bytes3 p.frame := by
  rw [positionBytes, u24_eq_bytes3]
  rfl

/-- The fields of an on-air record, its granted screens given as their byte (R80). -/
theorem onAirBytes_eq {r : OnAir} {granted : Byte} (h : ∀ k, granted.getLsbD k = r.granted.any fun i => i.val == k) :
    onAirBytes r = bytes2 r.number ++ codeIn [.call .orderReady, .call .recall, .showNotice, .operator] r.kind
      ++ bytes1 r.priority ++ bytes1 r.clip ++ [granted] ++ (r.tag.elim [0] fun n => 1 :: bytes2 n)
      ++ (r.order.elim [0] fun n => 1 :: bytes2 n) := by
  rw [onAirBytes, u16_eq_bytes2, EntryKind.code_eq, unitSet_eq h, optional_eq_elim u16_eq_bytes2,
    optional_eq_elim u16_eq_bytes2]
  rfl

end Sys2Proof.Machine
end

section
/-! The transmit arbiter and the line (R181, R187, R191, R192), and O7. -/
namespace Sys2Proof.Machine

theorem Link.startIfIdle_busy {l : Link} {x : Sending} (h : l.sending = some x) : l.startIfIdle = l := by
  rw [startIfIdle, h]

namespace State

variable {s : State}

/-! ## The service, one frame after another -/

/-- Taking a frame leaves no more frames waiting than before. -/
theorem length_takeFrame_received (f : RxFrame) : (s.takeFrame f).link.received.length ≤ s.link.received.length := by
  have hlink : s.link.within ⟨s.link.received.length, s.link.replies.length, s.link.reports.length⟩ :=
    ⟨le_rfl, le_rfl, le_max_right _ _⟩
  unfold takeFrame
  split
  · exact (Link.within_postReply hlink _).1
  · split
    · exact (Link.within_postReply hlink _).1
    · exact (Link.within_postReply hlink _).1
    · exact (Link.within_postReply ((s.requestEffect_stays _).link _ hlink) _).1

/-- The service's loop comes to its end with any fuel that the waiting frames allow. -/
theorem serviceLoop_fuel : ∀ (n m : Nat) (s : State), s.link.received.length ≤ n → s.link.received.length ≤ m →
    serviceLoop n s = serviceLoop m s
  | 0, m, s, hn, _ => by
    have hnil : s.link.received = [] := List.eq_nil_of_length_eq_zero (Nat.le_zero.1 hn)
    rw [serviceLoop_idle (.inl hnil), serviceLoop_idle (.inl hnil)]
  | n + 1, 0, s, _, hm => by
    have hnil : s.link.received = [] := List.eq_nil_of_length_eq_zero (Nat.le_zero.1 hm)
    rw [serviceLoop_idle (.inl hnil), serviceLoop_idle (.inl hnil)]
  | n + 1, m + 1, s, hn, hm => by
    cases hr : s.link.received with
    | nil => rw [serviceLoop_idle (.inl hr), serviceLoop_idle (.inl hr)]
    | cons f others =>
      rw [hr] at hn hm
      cases hs : s.link.serves with
      | false => rw [serviceLoop_idle (.inr hs), serviceLoop_idle (.inr hs)]
      | true =>
        have hless := length_takeFrame_received (s := s.updLink fun l => { l with received := others }) f
        rw [serviceLoop_succ hr hs, serviceLoop_succ hr hs]
        exact serviceLoop_fuel n m _ (hless.trans (Nat.le_of_succ_le_succ hn)) (hless.trans (Nat.le_of_succ_le_succ hm))

theorem service_cons {f : RxFrame} {others : List RxFrame} (hr : s.link.received = f :: others)
    (hs : s.link.serves = true) :
    s.service = ((s.updLink fun l => { l with received := others }).takeFrame f).service := by
  rw [service, hr, List.length_cons, serviceLoop_succ hr hs]
  exact serviceLoop_fuel _ _ _ (length_takeFrame_received _) le_rfl

/-- One waiting request frame is taken as its request command is. -/
theorem service_request {c : Instr} {tag : Byte} {q : Request} (hc : c.request = some (tag, q)) (hf : q.fits = true)
    (ht : tag ≠ 0) (hp : s.powered = true) (hr : s.link.received = [⟨tag, q.kind, q.body⟩]) (hs : s.link.serves = true) :
    .next s.service = exec c (s.updLink fun l => { l with received := [] }) := by
  rw [service, hr, List.length_singleton, serviceLoop_succ hr hs, exec_request hc,
    request_takes (s := s.updLink fun l => { l with received := [] }) ⟨hp, rfl, hs, ht⟩ hf]
  exact congrArg Host.Outcome.next (takeFrame_good ht (decodeRequest_body q hf))

/-! ## The end of a frame -/

theorem exec_txFrameEnd (hp : s.powered = true) (hs : s.link.sending.isSome = true) (he : s.link.endsPart = false) :
    exec .txFrameEnd s = .next s.nextFrame := by
  obtain ⟨x, hx⟩ := Option.isSome_iff_exists.1 hs
  change Host.Outcome.next _ = _
  rw [ifPowered, if_pos hp, hx]
  exact congrArg _ (if_neg (by rw [he]; exact Bool.false_ne_true))

theorem nextFrame_reply {r : Reply} {rest : List Reply} (h : s.link.replies = r :: rest) :
    s.nextFrame = ({ s with link := { s.link with replies := rest, sending := some (.reply r) } } : State).service := by
  rw [nextFrame, if_neg (by rw [h]; exact Bool.false_ne_true)]
  unfold updLink Link.startIfIdle
  dsimp only
  rw [h]

theorem nextFrame_report {r : Report} {rest : List Report} (h : s.link.replies = []) (hr : s.link.reports = r :: rest) :
    s.nextFrame = { s with link :=
      { s.link with reports := rest, sending := some (.report r s.link.lost), lost := false } } := by
  rw [nextFrame, if_pos (by rw [h]; rfl)]
  unfold updLink Link.startIfIdle
  dsimp only
  rw [h, hr]

theorem nextFrame_none (h : s.link.replies = []) (hr : s.link.reports = []) :
    s.nextFrame = { s with link := { s.link with sending := none } } := by
  rw [nextFrame, if_pos (by rw [h]; rfl)]
  unfold updLink Link.startIfIdle
  dsimp only
  rw [h, hr]

/-- A report queued while a frame is being sent (R191). -/
theorem post_sending (subject : Nat) (record : ReportRecord) (hs : s.link.sending.isSome = true) :
    s.post subject record = s.updLink (·.queueReport ⟨s.book.siteTime, subject, record⟩) := by
  obtain ⟨x, hx⟩ := Option.isSome_iff_exists.1 hs
  have hkept : (s.link.queueReport ⟨s.book.siteTime, subject, record⟩).sending = some x := by
    unfold Link.queueReport
    split <;> exact hx
  exact congrArg (fun l => { s with link := l }) (Link.startIfIdle_busy hkept)

/-! ## The line -/

theorem getElem?_flatMap_lineBits : ∀ {bs : List Byte} {k : Nat} {b : Byte} (j : Nat), bs[k]? = some b → j < 10 →
    (bs.flatMap lineBits)[10 * k + j]? = (lineBits b)[j]?
  | c :: bs, 0, b, j, h, hj => by
    cases h
    rw [List.flatMap_cons, Nat.mul_zero, Nat.zero_add]
    exact List.getElem?_append_left hj
  | c :: bs, k + 1, b, j, h, hj => by
    have hplace : 10 * (k + 1) + j = (lineBits c).length + (10 * k + j) := by
      change _ = 10 + _
      omega
    rw [List.flatMap_cons, hplace, List.getElem?_append_right (Nat.le_add_right _ _), Nat.add_sub_cancel_left]
    exact getElem?_flatMap_lineBits j h hj

theorem tx_sending {x : Sending} (hp : s.powered = true) (hx : s.link.sending = some x) (n : Nat) :
    s.tx n = (x.bytes.flatMap lineBits)[n]?.getD true := by
  rw [tx, hp, Link.txBits, hx, Bool.true_and]

theorem tx_byte {x : Sending} {k : Nat} {b : Byte} (hp : s.powered = true) (hx : s.link.sending = some x)
    (hb : x.bytes[k]? = some b) {j : Nat} (hj : j < 10) : s.tx (10 * k + j) = (lineBits b)[j]?.getD true := by
  rw [tx_sending hp hx, getElem?_flatMap_lineBits j hb hj]

theorem lineBits_data (b : Byte) {j : Nat} (hj : j < 8) : (lineBits b)[1 + j]?.getD true = b.getLsbD j := by
  interval_cases j <;> rfl

theorem tx_rests {x : Sending} {k : Nat} (hp : s.powered = true) (hx : s.link.sending = some x)
    (hk : 10 * x.bytes.length ≤ k) : s.tx k = true := by
  have hlen : (x.bytes.flatMap lineBits).length ≤ k := by
    rw [length_flatMap_of_const (put := lineBits) (n := 10) fun _ => rfl, Nat.mul_comm]
    exact hk
  rw [tx_sending hp hx, List.getElem?_eq_none hlen]
  rfl

end State

/-- Settles O7: the arbiter, the service, the report queue and the line by the rules above; then each frame sent, field by
field. -/
theorem transmitArbiter : Obligations.TransmitArbiter := by
  unfold Obligations.TransmitArbiter
  refine ⟨fun l => Link.serves_iff, fun s hp hs he => ⟨fun r rest hr hrx => ?_, fun r rest hr hrp => ?_, fun hr hrp => ?_,
    fun r rest t hr ht => ?_⟩, fun s subject record hs => ?_, fun s hp he => ?_, fun s x hp hx => ⟨fun k b hb =>
      ⟨State.tx_byte hp hx hb (j := 0) (by decide), fun j hj => ?_, State.tx_byte hp hx hb (j := 9) (by decide)⟩,
      fun k hk => State.tx_rests hp hx hk⟩, fun s k hp hs => ?_, fun x tag data ends => ?_,
    fun cause lost => sentAs_of rfl ?_, ?_, fun index g => sentAs_of rfl ?_, fun index p level entry =>
      ⟨fun l code action h => ?_, fun clip priority => sentAs_of rfl ?_⟩,
    fun tag i r => ⟨fun n late capture => sentAs_of rfl ?_, fun reason => sentAs_of rfl ?_⟩,
    fun a counted tag fields hf => ⟨sentAs_of rfl ?_, sentAs_of rfl ?_⟩, sentAs_of rfl rfl, sentAs_of rfl rfl,
    fun r granted fields remainder hg hf => ⟨sentAs_of rfl ?_, fun outcome => sentAs_of rfl ?_⟩,
    fun index clip priority p => sentAs_of rfl ?_,
    fun number tag i => ⟨fun taken readyAt entry => sentAs_of rfl ?_, fun reason calls left counted => sentAs_of rfl ?_⟩,
    fun item condition after low order => sentAs_of rfl ?_, fun condition pathOpen => sentAs_of rfl ?_,
    fun office policy => sentAs_of rfl ?_, fun record show_ openedAt closedAt interrupted => sentAs_of rfl ?_⟩
  · rw [State.exec_txFrameEnd hp hs he, State.nextFrame_reply hr]
    exact congrArg _ (State.service_idle (.inl hrx))
  · rw [State.exec_txFrameEnd hp hs he, State.nextFrame_report hr hrp]
  · rw [State.exec_txFrameEnd hp hs he, State.nextFrame_none hr hrp]
  · have hexec : exec .txFrameEnd s = .next t.service := by
      rw [State.exec_txFrameEnd hp hs he, State.nextFrame_reply hr, ht]
    have hpt : t.powered = true := by rw [ht]; exact hp
    have hrt : t.link.received = s.link.received := by rw [ht]
    exact ⟨hexec, fun h => State.service_idle (h.imp hrt.trans id), fun f others hrx => State.service_cons (hrt.trans hrx),
      fun c tag q hc hf htag hrx hserves =>
        hexec.trans (State.service_request hc hf htag hpt (hrt.trans hrx) hserves)⟩
  · rw [State.post_sending subject record hs]
    exact ⟨fun h => congrArg (fun l => { s with link := l }) (if_pos h),
      fun h => congrArg (fun l => { s with link := l }) (if_neg (Nat.not_lt.2 h))⟩
  · exact (State.exec_restarts ⟨hp, he, .inr rfl, rfl⟩).trans (State.exec_restarts ⟨hp, he, .inl rfl, rfl⟩).symm
  · rw [Nat.add_assoc, State.tx_byte hp hx hb (by omega), State.lineBits_data b hj]
  · rw [State.tx, hp, Link.txBits, hs]; rfl
  · rw [reply_bytes, Result.code_eq]; rfl
  · rw [ReportRecord.bytes, StartCause.code_eq, flag_eq_bit]; rfl
  · rintro left entered reason hold bound states rfl
    refine sentAs_of rfl ?_
    rw [ReportRecord.bytes, ScreenState.code_eq, ScreenState.code_eq, StateReason.code_eq, HoldReason.code_eq,
      optional_eq_elim fun _ => rfl]
    rfl
  · rw [ReportRecord.bytes, segmentBytes, SegmentKind.code_eq, GatePolicy.code_eq, OrderPolicy.code_eq, AnnouncePolicy.code_eq,
      u24_eq_bytes3, flag_eq_bit]
    rfl
  · simp only [List.mem_cons, Prod.mk.injEq, List.not_mem_nil, or_false] at h
    rcases h with ⟨rfl, rfl⟩ | ⟨rfl, rfl⟩ | ⟨rfl, rfl⟩ | ⟨rfl, rfl⟩ <;>
      exact sentAs_of rfl (by rw [ReportRecord.bytes, positionBytes_eq]; cases level <;> rfl)
  · rw [ReportRecord.bytes, positionBytes_eq, cueFields, u16_eq_bytes2]; rfl
  · rw [ReportRecord.bytes, u16_eq_bytes2, flag_eq_bit, optional_eq_elim positionBytes_eq]; rfl
  · rw [ReportRecord.bytes, u16_eq_bytes2, AdmissionEnd.code_eq]; rfl
  · rw [ReportRecord.bytes, hf, optional_eq_elim attributionBytes_eq, flag_eq_bit, optional_eq_elim u16_eq_bytes2]; rfl
  · rw [ReportRecord.bytes, hf, optional_eq_elim attributionBytes_eq, flag_eq_bit]; rfl
  · rw [ReportRecord.bytes, hf, onAirBytes_eq hg, flag_eq_bit]
  · rw [ReportRecord.bytes, hf, onAirBytes_eq hg, flag_eq_bit, playOutcomeCode_eq]; rfl
  · rw [ReportRecord.bytes, positionBytes_eq]; rfl
  · rw [ReportRecord.bytes, u16_eq_bytes2, u16_eq_bytes2, u16_eq_bytes2]; rfl
  · rw [ReportRecord.bytes, u16_eq_bytes2, u16_eq_bytes2, OrderEnd.code_eq, flag_eq_bit, flag_eq_bit]; rfl
  · rw [ReportRecord.bytes, StockCondition.code_eq, u16_eq_bytes2, u16_eq_bytes2, u16_eq_bytes2]; rfl
  · rw [ReportRecord.bytes, AudioCondition.code_eq, openCode_eq]; rfl
  · rw [ReportRecord.bytes, secondCode_eq, CountPolicy.code_eq]; rfl
  · rw [ReportRecord.bytes, u16_eq_bytes2, flag_eq_bit]; rfl

end Sys2Proof.Machine
end
